-- ==== Sys2Proof/Word.lean ====
section
/-! DEFINITION. The two word types of CORE (spec/00_scope.md R10, R11): 8-bit data and 16-bit addresses. -/

namespace Sys2Proof

/-- `u8`: the data width of the bus and of the 8-bit registers (R10). -/
abbrev Byte := BitVec 8

/-- `u16`: the width of the addresses and of the 16-bit registers (R10). -/
abbrev Word := BitVec 16

end Sys2Proof
end

