-- ==== Sys2Proof/Config.lean ====
section
/-! DEFINITION. The parameters the spec leaves open (spec/00_scope.md R10) and the values the model names for them. -/

namespace Sys2Proof.Config

/-- The open reset parameters `INIT_A`, `INIT_F`, `INIT_BC`, `INIT_DE`, `INIT_HL`
(spec/70_reset_and_hazards.md R342). Reset masks the low nibble of `f` (spec/10_state.md R26). -/
structure Init where
  a  : Byte
  f  : Byte
  bc : Word
  de : Word
  hl : Word
  deriving DecidableEq, Repr

/-- The parameters `State.reset` takes. DESIGN CHOICE (notes/assumptions/1.md, unsafe): the spec gives no value; zero is
what the vectors of spec/95_test_vectors.md start from. Statements about reset hold for every `Init`. -/
def defaultInit : Init := { a := 0x00, f := 0x00, bc := 0x0000, de := 0x0000, hl := 0x0000 }

/-- What a byte of memory that nothing has written reads as. DESIGN CHOICE (notes/assumptions/3.md, unsafe):
the spec's bus may answer anything (spec/92_eei_decisions.md D20). -/
def unwrittenByte : Byte := 0x00

/-- `IDLE_CYCLES`, a parameter with default 1 (R10; spec/92_eei_decisions.md D5). -/
def idleCycles : Nat := 1

end Sys2Proof.Config
end

