-- ==== Sys2Proof/Machine/State.lean ====
section
/-! DEFINITION. The state of CORE as plain data (spec/10_state.md), the reasons a step can stop, and reset. -/

namespace Sys2Proof.Machine

/-- The four condition flags: F is `{Z, N, H, C, 0, 0, 0, 0}` (spec/10_state.md R25, which lets a model hold F so). -/
structure Flags where
  /-- bit 7, zero -/
  z : Bool
  /-- bit 6, subtract -/
  n : Bool
  /-- bit 5, half-carry -/
  h : Bool
  /-- bit 4, carry -/
  c : Bool
  deriving DecidableEq, Repr

/-- Memory as (address, byte) pairs, addresses rising, no entry equal to `Config.unwrittenByte` (`Memory.wf`). -/
abbrev Memory := List Host.Cell

/-- The whole state: the registers (R20), the four control fields (R34 to R37) and the memory behind the bus (R41). -/
structure State where
  a : Byte
  b : Byte
  c : Byte
  d : Byte
  e : Byte
  h : Byte
  l : Byte
  /-- F, as its four flags (R25) -/
  flags : Flags
  sp : Word
  pc : Word
  /-- Interrupt Master Enable (R34) -/
  ime : Bool
  /-- the counter of EI's delay; its values are 0 and 1 (R35) -/
  imePending : Nat
  halted : Bool
  stopped : Bool
  mem : Memory
  deriving DecidableEq, Repr

/-- Why the machine stops. -/
inductive Fault where
  /-- `UndefinedOpcode(op, pc)` (spec/60_exceptions.md R300), raised by the meanings of the eleven undefined opcodes, with the
  opcode byte and the address it was fetched from. Safe: the machine stops where "real hardware locks"; the state the
  report comes with in an emulator that goes on (R310) is `resumeAfterUndefined`. -/
  | undefinedOpcode (op : Byte) (pc : Word)
  deriving DecidableEq, Repr

/-- Why an instruction or an operation of the control interface has no next state. -/
inductive Refusal where
  /-- An instruction that has no meaning yet, by its mnemonic; raised by `exec`'s refused arms only. Safe. -/
  | notModelled (mnemonic : String)
  /-- `request_interrupt(s)` with `s` outside 0..4 (spec/93_implementation_defined.md U10), raised by `requestInterrupt`. Safe. -/
  | noSuchInterruptSource (source : Nat)
  /-- A write of ime_pending with a value other than 0 and 1 (U12), raised by `control`. Safe. -/
  | noSuchImePending (value : Nat)
  deriving DecidableEq, Repr

/-- What every meaning answers. -/
abbrev Result := Host.Outcome State Fault Refusal

/-- One access of the bus (spec/20_memory.md R60): the address and the byte moved. -/
inductive BusAccess where
  | read (addr : Word) (v : Byte)
  | write (addr : Word) (v : Byte)
  deriving DecidableEq, Repr

/-- The post-boot state with the open parameters `init` (spec/70_reset_and_hazards.md R340 to R342), memory listing nothing. -/
def State.resetWith (init : Config.Init) : State where
  a := init.a
  b := init.bc.extractLsb' 8 8
  c := init.bc.extractLsb' 0 8
  d := init.de.extractLsb' 8 8
  e := init.de.extractLsb' 0 8
  h := init.hl.extractLsb' 8 8
  l := init.hl.extractLsb' 0 8
  flags := { z := init.f.getLsbD 7, n := init.f.getLsbD 6, h := init.f.getLsbD 5, c := init.f.getLsbD 4 }
  sp := 0xFFFE
  pc := 0x0100
  ime := false
  imePending := 0
  halted := false
  stopped := false
  mem := []

/-- The machine right after reset, with the parameters of `Config.defaultInit`. -/
def State.reset : State := State.resetWith Config.defaultInit

end Sys2Proof.Machine
end

