-- ==== Sys2Proof/Syntax.lean ====
section
/-! DEFINITION. The instructions of CORE: one constructor of `Instr` per row of spec/opcode_table.json, and their operands. -/

namespace Sys2Proof

/-- `R8` operands (spec/30_encoding.md R93). `hlInd` is `(HL)`, the memory byte at HL, not a register (R97). -/
inductive R8 where
  | b | c | d | e | h | l | hlInd | a
  deriving DecidableEq, Repr

/-- `R16` operands (R94). -/
inductive R16 where
  | bc | de | hl | sp
  deriving DecidableEq, Repr

/-- `R16STK` operands (R95). -/
inductive R16stk where
  | bc | de | hl | af
  deriving DecidableEq, Repr

/-- `R16MEM` operands (R96): `hlInc` is `HL+`, `hlDec` is `HL−`. -/
inductive R16mem where
  | bc | de | hlInc | hlDec
  deriving DecidableEq, Repr

/-- `COND` (R98): NZ, Z, NC, C. -/
inductive Cond where
  | nz | z | nc | c
  deriving DecidableEq, Repr

/-- The eight ALU operations of blocks 2 and 3 (R105). -/
inductive AluOp where
  | add | adc | sub | sbc | and | xor | or | cp
  deriving DecidableEq, Repr

/-- The eight rotate and shift operations of the CB space (R106). -/
inductive RotOp where
  | rlc | rrc | rl | rr | sla | sra | swap | srl
  deriving DecidableEq, Repr

/-- The instructions: one constructor per row of spec/opcode_table.json, in the table's order (LAWS.json maps each to its row). -/
inductive Instr where
  -- block 0 (R100)
  | nop
  | ldR16Imm16 (rr : R16) (imm16 : Word)
  | ldR16memA (rr : R16mem)
  | ldAR16mem (rr : R16mem)
  | ldImm16Sp (imm16 : Word)
  | incR16 (rr : R16)
  | decR16 (rr : R16)
  | addHlR16 (rr : R16)
  | incR8 (dst : R8)
  | decR8 (dst : R8)
  | ldR8Imm8 (dst : R8) (imm8 : Byte)
  | rlca
  | rrca
  | rla
  | rra
  | daa
  | cpl
  | scf
  | ccf
  | jrE8 (e8 : Byte)
  | jrCondE8 (cc : Cond) (e8 : Byte)
  | stop (pad : Byte)
  -- block 1 (R101)
  | halt
  | ldR8R8 (dst src : R8)
  -- block 2 (R102)
  | addAR8 (src : R8)
  | adcAR8 (src : R8)
  | subAR8 (src : R8)
  | sbcAR8 (src : R8)
  | andAR8 (src : R8)
  | xorAR8 (src : R8)
  | orAR8 (src : R8)
  | cpAR8 (src : R8)
  -- block 3 (R103)
  | addAImm8 (imm8 : Byte)
  | adcAImm8 (imm8 : Byte)
  | subAImm8 (imm8 : Byte)
  | sbcAImm8 (imm8 : Byte)
  | andAImm8 (imm8 : Byte)
  | xorAImm8 (imm8 : Byte)
  | orAImm8 (imm8 : Byte)
  | cpAImm8 (imm8 : Byte)
  | retCond (cc : Cond)
  | ret
  | reti
  | jpCondImm16 (cc : Cond) (imm16 : Word)
  | jpImm16 (imm16 : Word)
  | jpHl
  | callCondImm16 (cc : Cond) (imm16 : Word)
  | callImm16 (imm16 : Word)
  | rstTgt3 (t : Fin 8)
  | popR16stk (rr : R16stk)
  | pushR16stk (rr : R16stk)
  /-- The table's prefix row: `0xCB` with its second byte `cb`. Not an instruction by itself (R111), so not well-formed: the
  decoder gives the CB-space instruction. Its meaning is that instruction's. -/
  | prefixCb (cb : Byte)
  | ldhCA
  | ldhImm8A (imm8 : Byte)
  | ldImm16A (imm16 : Word)
  | ldhAC
  | ldhAImm8 (imm8 : Byte)
  | ldAImm16 (imm16 : Word)
  | addSpE8 (e8 : Byte)
  | ldHlSpE8 (e8 : Byte)
  | ldSpHl
  | di
  | ei
  -- the eleven undefined opcodes (R108)
  | undefinedD3
  | undefinedDB
  | undefinedDD
  | undefinedE3
  | undefinedE4
  | undefinedEB
  | undefinedEC
  | undefinedED
  | undefinedF4
  | undefinedFC
  | undefinedFD
  -- the CB space (R104)
  | rlcR8 (src : R8)
  | rrcR8 (src : R8)
  | rlR8 (src : R8)
  | rrR8 (src : R8)
  | slaR8 (src : R8)
  | sraR8 (src : R8)
  | swapR8 (src : R8)
  | srlR8 (src : R8)
  | bitBR8 (b : Fin 8) (src : R8)
  | resBR8 (b : Fin 8) (src : R8)
  | setBR8 (b : Fin 8) (src : R8)
  deriving DecidableEq, Repr

/-- The 8-bit register names of the accessors (spec/10_state.md R20, R44). -/
inductive Reg8 where
  | a | f | b | c | d | e | h | l
  deriving DecidableEq, Repr

/-- The 16-bit register names of the accessors (R20, R44). -/
inductive Reg16 where
  | af | bc | de | hl | sp | pc
  deriving DecidableEq, Repr

/-- The four flags (R25). -/
inductive Flag where
  | z | n | h | c
  deriving DecidableEq, Repr

/-- What the environment can do to CORE between steps (spec/00_scope.md R6, R8, R9): the operations of the control
interface, the accessors (spec/10_state.md R44), and `poke`, a change of what later reads of memory return. -/
inductive ControlOp where
  | step
  | reset (init : Config.Init)
  | requestInterrupt (source : Nat)
  | setReg8 (r : Reg8) (v : Byte)
  | setReg16 (r : Reg16) (v : Word)
  | setFlag (f : Flag) (v : Bool)
  | setIme (v : Bool)
  | setImePending (n : Nat)
  | setHalted (v : Bool)
  | setStopped (v : Bool)
  | poke (addr : Word) (v : Byte)
  deriving DecidableEq, Repr

end Sys2Proof
end

