-- ==== Sys2Proof/Machine/Flags.lean ====
section
/-! DEFINITION. F as a byte, and every flag computation of the spec: ALU, INC and DEC, 16-bit addition, rotates and shifts, BIT,
DAA. Conditions are on unbounded integers (spec/00_scope.md R11); results are reduced to the destination's width. -/

namespace Sys2Proof.Machine

/-- F read as a byte: `{Z, N, H, C, 0, 0, 0, 0}` (spec/10_state.md R25). -/
def Flags.toByte (f : Flags) : Byte :=
  BitVec.ofBool f.z ++ BitVec.ofBool f.n ++ BitVec.ofBool f.h ++ BitVec.ofBool f.c ++ 0b0000#4

/-- A byte written to F: bits 3..0 are ignored (R26). -/
def Flags.ofByte (v : Byte) : Flags :=
  { z := v.getLsbD 7, n := v.getLsbD 6, h := v.getLsbD 5, c := v.getLsbD 4 }

/-- The named flag. -/
def Flags.get (g : Flag) (f : Flags) : Bool :=
  match g with
  | .z => f.z | .n => f.n | .h => f.h | .c => f.c

/-- `set_flag`: the named flag only (R27). -/
def Flags.set (g : Flag) (v : Bool) (f : Flags) : Flags :=
  match g with
  | .z => { f with z := v }
  | .n => { f with n := v }
  | .h => { f with h := v }
  | .c => { f with c := v }

/-- A flag as a number (R11: "`F.C` used as a number is 0 or 1"). -/
def carryIn (c : Bool) : Nat := if c then 1 else 0

/-- The low nibble, `v & 0xF`. -/
def lowNibble (v : Byte) : Nat := v.toNat % 16

/-! ### 8-bit ALU (spec/40_alu8.md) -/

/-- ADD and ADC (R130, R131): `a + b + cy`. -/
def aluAdd (a b : Byte) (cy : Nat) : Byte × Flags :=
  let r := a.toNat + b.toNat + cy
  (BitVec.ofNat 8 r,
   { z := decide (r % 256 = 0)
     n := false
     h := decide (lowNibble a + lowNibble b + cy > 0xF)
     c := decide (r > 0xFF) })

/-- SUB, SBC and CP (R132, R133, R137): `a − b − cy`. -/
def aluSub (a b : Byte) (cy : Nat) : Byte × Flags :=
  let r := a - b - BitVec.ofNat 8 cy
  (r,
   { z := decide (r = 0)
     n := true
     h := decide (lowNibble a < lowNibble b + cy)
     c := decide (a.toNat < b.toNat + cy) })

/-- AND, XOR and OR: Z from the result, N and C cleared, H as given (R134 to R136). -/
def aluLogic (r : Byte) (h : Bool) : Byte × Flags :=
  (r, { z := decide (r = 0), n := false, h := h, c := false })

/-- The eight ALU operations on `a = A` and the operand `b`: the new A and the flags (R130 to R137). -/
def aluCompute (o : AluOp) (a b : Byte) (f : Flags) : Byte × Flags :=
  match o with
  | .add => aluAdd a b 0
  | .adc => aluAdd a b (carryIn f.c)
  | .sub => aluSub a b 0
  | .sbc => aluSub a b (carryIn f.c)
  | .and => aluLogic (a &&& b) true
  | .xor => aluLogic (a ^^^ b) false
  | .or => aluLogic (a ||| b) false
  | .cp => (a, (aluSub a b 0).2)

/-- INC r8 (R146): C unchanged. -/
def inc8 (old : Byte) (f : Flags) : Byte × Flags :=
  (old + 1, { z := decide (old + 1 = 0), n := false, h := decide (lowNibble old = 0xF), c := f.c })

/-- DEC r8 (R147): C unchanged. -/
def dec8 (old : Byte) (f : Flags) : Byte × Flags :=
  (old - 1, { z := decide (old - 1 = 0), n := true, h := decide (lowNibble old = 0), c := f.c })

/-! ### 16-bit arithmetic (spec/41_arith16.md) -/

/-- ADD HL, r16 (R162): carries out of bits 11 and 15, Z unchanged. -/
def addHl (hl v : Word) (f : Flags) : Word × Flags :=
  (hl + v,
   { z := f.z
     n := false
     h := decide (hl.toNat % 0x1000 + v.toNat % 0x1000 > 0x0FFF)
     c := decide (hl.toNat + v.toNat > 0xFFFF) })

/-- `sext_16` (spec/00_scope.md R11). -/
def sext16 (b : Byte) : Word := b.signExtend 16

/-- ADD SP, e8 and LD HL, SP+e8 (R163, R164): the sum takes `e8` signed, the flags take it unsigned on SP's low byte. -/
def addSpOffset (sp : Word) (e8 : Byte) : Word × Flags :=
  (sp + sext16 e8,
   { z := false
     n := false
     h := decide (sp.toNat % 16 + lowNibble e8 > 0xF)
     c := decide (sp.toNat % 256 + e8.toNat > 0xFF) })

/-! ### Rotates and shifts (spec/42_rotates_shifts.md) -/

/-- `{old[6:0], bit}`. -/
def shiftInRight (old : Byte) (bit : Bool) : Byte := old.extractLsb' 0 7 ++ BitVec.ofBool bit

/-- `{bit, old[7:1]}`. -/
def shiftInLeft (bit : Bool) (old : Byte) : Byte := BitVec.ofBool bit ++ old.extractLsb' 1 7

/-- The result and the carry out of the eight operations, `c` being F.C before (R174 to R181). -/
def rotate (o : RotOp) (old : Byte) (c : Bool) : Byte × Bool :=
  match o with
  | .rlc => (shiftInRight old (old.getLsbD 7), old.getLsbD 7)
  | .rrc => (shiftInLeft (old.getLsbD 0) old, old.getLsbD 0)
  | .rl => (shiftInRight old c, old.getLsbD 7)
  | .rr => (shiftInLeft c old, old.getLsbD 0)
  | .sla => (shiftInRight old false, old.getLsbD 7)
  | .sra => (shiftInLeft (old.getLsbD 7) old, old.getLsbD 0)
  | .swap => (old.extractLsb' 0 4 ++ old.extractLsb' 4 4, false)
  | .srl => (shiftInLeft false old, old.getLsbD 0)

/-- The flags of the CB forms (R182). -/
def rotateFlags (r : Byte × Bool) : Flags := { z := decide (r.1 = 0), n := false, h := false, c := r.2 }

/-- The flags of RLCA, RRCA, RLA, RRA: Z is always 0 (section 1). -/
def accRotateFlags (r : Byte × Bool) : Flags := { z := false, n := false, h := false, c := r.2 }

/-! ### Bit operations (spec/43_bitops.md) -/

/-- BIT (R190): Z is the complement of the tested bit, C unchanged. -/
def bitFlags (b : Fin 8) (v : Byte) (f : Flags) : Flags := { z := !v.getLsbD b.val, n := false, h := true, c := f.c }

/-- RES (R191): `v & ~(1 << b)`. -/
def resBit (b : Fin 8) (v : Byte) : Byte := v &&& ~~~(1#8 <<< b.val)

/-- SET (R192): `v | (1 << b)`. -/
def setBit (b : Fin 8) (v : Byte) : Byte := v ||| (1#8 <<< b.val)

/-! ### DAA (spec/47_misc.md R261) -/

/-- The adjustment of A and C after an addition (`n == 0`). -/
def daaAfterAdd (a : Byte) (h c : Bool) : Byte × Bool :=
  let (a, c) := if c || decide (a.toNat > 0x99) then (a + 0x60, true) else (a, c)
  let a := if h || decide (lowNibble a > 9) then a + 0x06 else a
  (a, c)

/-- The adjustment of A after a subtraction (`n == 1`); C is left as it was. -/
def daaAfterSub (a : Byte) (h c : Bool) : Byte × Bool :=
  let a := if c then a - 0x60 else a
  let a := if h then a - 0x06 else a
  (a, c)

/-- DAA: the new A and the flags. -/
def daaAdjust (a : Byte) (f : Flags) : Byte × Flags :=
  let r := if f.n then daaAfterSub a f.h f.c else daaAfterAdd a f.h f.c
  (r.1, { z := decide (r.1 = 0), n := f.n, h := false, c := r.2 })

end Sys2Proof.Machine
end

