-- ==== Sys2Proof/Machine/Ops.lean ====
section
/-! DEFINITION. The shared operations: memory, the updates of one field, the 16-bit views, the bus primitives, the stack, and
taking an interrupt or an exception and returning from one. -/

namespace Sys2Proof.Machine

/-! ### Memory in canonical form -/

/-- The byte at an address; an unlisted one reads as `Config.unwrittenByte`. -/
def Memory.read : Memory → Nat → Byte
  | [], _ => Config.unwrittenByte
  | (k, v) :: m, a => if k = a then v else Memory.read m a

/-- The list without any entry for `a`. -/
def Memory.erase : Memory → Nat → Memory
  | [], _ => []
  | (k, v) :: m, a => if k = a then Memory.erase m a else (k, v) :: Memory.erase m a

/-- The list with the entry `(a, v)` put before the first greater address. -/
def Memory.insert : Memory → Nat → Byte → Memory
  | [], a, v => [(a, v)]
  | (k, w) :: m, a, v => if k < a then (k, w) :: Memory.insert m a v else (a, v) :: (k, w) :: m

/-- A byte written; writing what an unlisted address reads as removes the entry. -/
def Memory.write (m : Memory) (a : Nat) (v : Byte) : Memory :=
  if v = Config.unwrittenByte then Memory.erase m a else Memory.insert (Memory.erase m a) a v

/-- Every address of the list is at least `lo`, they rise strictly and stay below 2^16, and no entry is `Config.unwrittenByte`. -/
def Memory.wfFrom (lo : Nat) : Memory → Bool
  | [] => true
  | (k, v) :: m => decide (lo ≤ k) && decide (k < 2 ^ 16) && !(v == Config.unwrittenByte) && Memory.wfFrom (k + 1) m

/-- The canonical form. -/
def Memory.wf (m : Memory) : Bool := Memory.wfFrom 0 m

/-! ### Updates of one field -/

def State.setA (v : Byte) (s : State) : State := { s with a := v }
def State.setB (v : Byte) (s : State) : State := { s with b := v }
def State.setC (v : Byte) (s : State) : State := { s with c := v }
def State.setD (v : Byte) (s : State) : State := { s with d := v }
def State.setE (v : Byte) (s : State) : State := { s with e := v }
def State.setH (v : Byte) (s : State) : State := { s with h := v }
def State.setL (v : Byte) (s : State) : State := { s with l := v }
def State.setFlags (v : Flags) (s : State) : State := { s with flags := v }
def State.setSp (v : Word) (s : State) : State := { s with sp := v }
def State.setPc (v : Word) (s : State) : State := { s with pc := v }
def State.setIme (v : Bool) (s : State) : State := { s with ime := v }
def State.setImePending (v : Nat) (s : State) : State := { s with imePending := v }
def State.setHalted (v : Bool) (s : State) : State := { s with halted := v }
def State.setStopped (v : Bool) (s : State) : State := { s with stopped := v }
def State.setMem (v : Memory) (s : State) : State := { s with mem := v }

/-! ### The 16-bit views (spec/10_state.md R20, R21, R26) -/

/-- `w[7:0]`. -/
def loByte (w : Word) : Byte := w.extractLsb' 0 8
/-- `w[15:8]`. -/
def hiByte (w : Word) : Byte := w.extractLsb' 8 8
/-- `{hi, lo}`. -/
def joinBytes (hi lo : Byte) : Word := hi ++ lo

/-- F as a byte. -/
def State.f (s : State) : Byte := s.flags.toByte
def State.af (s : State) : Word := joinBytes s.a s.f
def State.bc (s : State) : Word := joinBytes s.b s.c
def State.de (s : State) : Word := joinBytes s.d s.e
def State.hl (s : State) : Word := joinBytes s.h s.l

/-- F written as a byte: the low nibble is masked (R26). -/
def State.setF (v : Byte) (s : State) : State := s.setFlags (Flags.ofByte v)
def State.setAf (w : Word) (s : State) : State := (s.setA (hiByte w)).setF (loByte w)
def State.setBc (w : Word) (s : State) : State := (s.setB (hiByte w)).setC (loByte w)
def State.setDe (w : Word) (s : State) : State := (s.setD (hiByte w)).setE (loByte w)
def State.setHl (w : Word) (s : State) : State := (s.setH (hiByte w)).setL (loByte w)

/-! ### The bus primitives (spec/20_memory.md R60 to R64) -/

/-- `read8`. -/
def State.read8 (s : State) (a : Word) : Byte := Memory.read s.mem a.toNat

/-- `write8`. -/
def State.write8 (a : Word) (v : Byte) (s : State) : State := s.setMem (Memory.write s.mem a.toNat v)

/-- `MemRead(a, 2)`: the byte at `a` is bits 7..0 (R63). -/
def State.read16 (s : State) (a : Word) : Word := joinBytes (s.read8 (a + 1)) (s.read8 a)

/-- `MemWrite(a, 2, v)`: the low byte at `a`, then the high byte at `a + 1` (R64). -/
def State.write16 (a : Word) (v : Word) (s : State) : State := (s.write8 a (loByte v)).write8 (a + 1) (hiByte v)

/-! ### The stack primitives (R66, R67) -/

/-- `push16(v)`. -/
def State.push16 (v : Word) (s : State) : State := (s.setSp (s.sp - 2)).write16 (s.sp - 2) v

/-- `pop16()`: the value popped and the state after. -/
def State.pop16 (s : State) : Word × State := (s.read16 s.sp, s.setSp (s.sp + 2))

/-! ### The program counter (spec/10_state.md R31, R32) -/

/-- `PC <- pc + n`. -/
def State.advance (n : Word) (s : State) : State := s.setPc (s.pc + n)

/-- Push a return address and continue at a target (CALL, RST, interrupt dispatch). -/
def State.callTo (returnAddress target : Word) (s : State) : State := (s.push16 returnAddress).setPc target

/-- `PC <- pop16()` (RET, RETI). -/
def State.returnToPopped (s : State) : State := s.pop16.2.setPc s.pop16.1

/-! ### Taking an exception and returning from one (spec/60_exceptions.md) -/

/-- `raise UndefinedOpcode(op, pc)`: no state is saved and no vector taken; a model treats the report as a fault (R300). -/
def raiseUndefined (op : Byte) (s : State) : Result := .fault (.undefinedOpcode op s.pc)

/-- The state the report comes with where the caller goes on: PC + 1 and nothing else (spec/47_misc.md R270, R310). -/
def undefinedHandled (s : State) : State := s.advance 1

/-- The vector of source `n` (R307). -/
def interruptVector (n : Nat) : Word := BitVec.ofNat 16 (0x0040 + 8 * n)

/-- Interrupt dispatch, the `if IME` branch of R306 (R308): IME cleared, PC pushed, PC at the vector. -/
def dispatchInterrupt (n : Nat) (s : State) : State := (s.setIme false).callTo s.pc (interruptVector n)

/-- `request_interrupt(n)` (R306): `halted` is cleared; if IME is set the interrupt is dispatched. A source outside 0..4 is refused
(spec/93_implementation_defined.md U10). -/
def requestInterrupt (n : Nat) (s : State) : Result :=
  if n ≤ 4 then .next (if s.ime then dispatchInterrupt n (s.setHalted false) else s.setHalted false)
  else .refused (.noSuchInterruptSource n)

/-- Return from an interrupt (spec/45_control.md R239): the popped PC, and IME set at once. -/
def State.returnFromInterrupt (s : State) : State := s.returnToPopped.setIme true

end Sys2Proof.Machine
end

