-- ==== Sys2Proof/Machine/Operands.lean ====
section
/-! DEFINITION. Every operand form (spec/30_encoding.md section 2, spec/44_loads.md section 1) and the accessors of
spec/10_state.md R44. -/

namespace Sys2Proof.Machine

/-- `R8[i]` as a value; index 6 is the memory byte at HL (R93, R97). -/
def State.getR8 (r : R8) (s : State) : Byte :=
  match r with
  | .b => s.b | .c => s.c | .d => s.d | .e => s.e | .h => s.h | .l => s.l
  | .hlInd => s.read8 s.hl
  | .a => s.a

/-- `R8[i] <- v`; index 6 writes the memory byte at HL (R97). -/
def State.setR8 (r : R8) (v : Byte) (s : State) : State :=
  match r with
  | .b => s.setB v | .c => s.setC v | .d => s.setD v | .e => s.setE v | .h => s.setH v | .l => s.setL v
  | .hlInd => s.write8 s.hl v
  | .a => s.setA v

/-- `R16[i]` as a value (R94). -/
def State.getR16 (r : R16) (s : State) : Word :=
  match r with
  | .bc => s.bc | .de => s.de | .hl => s.hl | .sp => s.sp

/-- `R16[i] <- w` (R94). -/
def State.setR16 (r : R16) (w : Word) (s : State) : State :=
  match r with
  | .bc => s.setBc w | .de => s.setDe w | .hl => s.setHl w | .sp => s.setSp w

/-- `R16STK[i]` as a value (R95). -/
def State.getR16stk (r : R16stk) (s : State) : Word :=
  match r with
  | .bc => s.bc | .de => s.de | .hl => s.hl | .af => s.af

/-- `R16STK[i] <- w` (R95); F is masked (R26). -/
def State.setR16stk (r : R16stk) (w : Word) (s : State) : State :=
  match r with
  | .bc => s.setBc w | .de => s.setDe w | .hl => s.setHl w | .af => s.setAf w

/-- The address an `R16MEM` operand gives, before HL is changed (R96, spec/44_loads.md R203). -/
def State.r16memAddr (r : R16mem) (s : State) : Word :=
  match r with
  | .bc => s.bc | .de => s.de | .hlInc => s.hl | .hlDec => s.hl

/-- The change of HL after the access (R203): incremented, decremented or left. -/
def State.r16memPost (r : R16mem) (s : State) : State :=
  match r with
  | .bc => s | .de => s
  | .hlInc => s.setHl (s.hl + 1)
  | .hlDec => s.setHl (s.hl - 1)

/-- The LDH address: `0xFF00 + offset` (spec/44_loads.md R209 to R212). -/
def highPage (offset : Byte) : Word := 0xFF00 + offset.setWidth 16

/-- A condition on the flags (R98). -/
def condHolds (cc : Cond) (f : Flags) : Bool :=
  match cc with
  | .nz => !f.z | .z => f.z | .nc => !f.c | .c => f.c

/-- The RST target, `t * 8` (R107). -/
def rstTarget (t : Fin 8) : Word := BitVec.ofNat 16 (t.val * 8)

/-! ### Accessors (spec/10_state.md R44) -/

/-- Inspection of an 8-bit register. -/
def State.reg8 (r : Reg8) (s : State) : Byte :=
  match r with
  | .a => s.a | .f => s.f | .b => s.b | .c => s.c | .d => s.d | .e => s.e | .h => s.h | .l => s.l

/-- Mutation of an 8-bit register, F masked (R26). -/
def State.setReg8 (r : Reg8) (v : Byte) (s : State) : State :=
  match r with
  | .a => s.setA v | .f => s.setF v | .b => s.setB v | .c => s.setC v
  | .d => s.setD v | .e => s.setE v | .h => s.setH v | .l => s.setL v

/-- Inspection of a 16-bit register. -/
def State.reg16 (r : Reg16) (s : State) : Word :=
  match r with
  | .af => s.af | .bc => s.bc | .de => s.de | .hl => s.hl | .sp => s.sp | .pc => s.pc

/-- Mutation of a 16-bit register, AF masked (R26). -/
def State.setReg16 (r : Reg16) (w : Word) (s : State) : State :=
  match r with
  | .af => s.setAf w | .bc => s.setBc w | .de => s.setDe w | .hl => s.setHl w | .sp => s.setSp w | .pc => s.setPc w

/-- Inspection of a flag. -/
def State.flag (g : Flag) (s : State) : Bool := s.flags.get g

/-- Mutation of a flag, the others left (R27). -/
def State.setFlag (g : Flag) (v : Bool) (s : State) : State := s.setFlags (s.flags.set g v)

end Sys2Proof.Machine
end

