-- ==== Sys2Proof/Machine/Alu8.lean ====
section
/-! DEFINITION. The 8-bit ALU instructions (spec/40_alu8.md). -/

namespace Sys2Proof.Machine

/-- An ALU operation on A and the operand `b` of an instruction of length `len` (R149). -/
def aluInstr (o : AluOp) (b : Byte) (len : Word) (s : State) : Result :=
  let r := aluCompute o s.a b s.flags
  .next (((s.setA r.1).setFlags r.2).advance len)

/-- INC or DEC of `R8[d]`: the operand is read once, then written once (R146, R147, spec/30_encoding.md R97). -/
def modifyR8 (f : Byte → Flags → Byte × Flags) (dst : R8) (s : State) : Result :=
  let r := f (s.getR8 dst) s.flags
  .next (((s.setR8 dst r.1).setFlags r.2).advance 1)

/-- R130 -/
def execAddAR8 (r : R8) (s : State) : Result := aluInstr .add (s.getR8 r) 1 s
/-- R131 -/
def execAdcAR8 (r : R8) (s : State) : Result := aluInstr .adc (s.getR8 r) 1 s
/-- R132 -/
def execSubAR8 (r : R8) (s : State) : Result := aluInstr .sub (s.getR8 r) 1 s
/-- R133 -/
def execSbcAR8 (r : R8) (s : State) : Result := aluInstr .sbc (s.getR8 r) 1 s
/-- R134 -/
def execAndAR8 (r : R8) (s : State) : Result := aluInstr .and (s.getR8 r) 1 s
/-- R135 -/
def execXorAR8 (r : R8) (s : State) : Result := aluInstr .xor (s.getR8 r) 1 s
/-- R136 -/
def execOrAR8 (r : R8) (s : State) : Result := aluInstr .or (s.getR8 r) 1 s
/-- R137: A unchanged. -/
def execCpAR8 (r : R8) (s : State) : Result := aluInstr .cp (s.getR8 r) 1 s

/-- R138 -/
def execAddAImm8 (imm8 : Byte) (s : State) : Result := aluInstr .add imm8 2 s
/-- R139 -/
def execAdcAImm8 (imm8 : Byte) (s : State) : Result := aluInstr .adc imm8 2 s
/-- R140 -/
def execSubAImm8 (imm8 : Byte) (s : State) : Result := aluInstr .sub imm8 2 s
/-- R141 -/
def execSbcAImm8 (imm8 : Byte) (s : State) : Result := aluInstr .sbc imm8 2 s
/-- R142 -/
def execAndAImm8 (imm8 : Byte) (s : State) : Result := aluInstr .and imm8 2 s
/-- R143 -/
def execXorAImm8 (imm8 : Byte) (s : State) : Result := aluInstr .xor imm8 2 s
/-- R144 -/
def execOrAImm8 (imm8 : Byte) (s : State) : Result := aluInstr .or imm8 2 s
/-- R145 -/
def execCpAImm8 (imm8 : Byte) (s : State) : Result := aluInstr .cp imm8 2 s

/-- R146 -/
def execIncR8 (dst : R8) (s : State) : Result := modifyR8 inc8 dst s
/-- R147 -/
def execDecR8 (dst : R8) (s : State) : Result := modifyR8 dec8 dst s

end Sys2Proof.Machine
end

