-- ==== Sys2Proof/Machine/Arith16.lean ====
section
/-! DEFINITION. 16-bit arithmetic (spec/41_arith16.md). -/

namespace Sys2Proof.Machine

/-- R160: no flag. -/
def execIncR16 (rr : R16) (s : State) : Result := .next ((s.setR16 rr (s.getR16 rr + 1)).advance 1)

/-- R161: no flag. -/
def execDecR16 (rr : R16) (s : State) : Result := .next ((s.setR16 rr (s.getR16 rr - 1)).advance 1)

/-- R162: both operands are read before HL is written. -/
def execAddHlR16 (rr : R16) (s : State) : Result :=
  let r := addHl s.hl (s.getR16 rr) s.flags
  .next (((s.setHl r.1).setFlags r.2).advance 1)

/-- R163 -/
def execAddSpE8 (e8 : Byte) (s : State) : Result :=
  let r := addSpOffset s.sp e8
  .next (((s.setSp r.1).setFlags r.2).advance 2)

/-- R164: SP is not written. -/
def execLdHlSpE8 (e8 : Byte) (s : State) : Result :=
  let r := addSpOffset s.sp e8
  .next (((s.setHl r.1).setFlags r.2).advance 2)

end Sys2Proof.Machine
end

