-- ==== Sys2Proof/WellFormed.lean ====
section
/-! DEFINITION. Which terms of `Instr` are instructions of the encoding (spec/30_encoding.md): every operand value is legal (R109)
but for the two checks below. -/

namespace Sys2Proof

/-- Well-formed instructions. `LD (HL), (HL)` has no word: its position 0x76 is HALT (R101). The prefix row is not an
instruction by itself (R111): its words are those of the CB rows. -/
def Instr.wellFormed : Instr → Bool
  | .ldR8R8 dst src => !(dst == .hlInd && src == .hlInd)
  | .prefixCb _ => false
  | _ => true

end Sys2Proof
end

