-- ==== Sys2Proof/Decode.lean ====
section
/-! DEFINITION. The decoder (spec/30_encoding.md), total on bytes, and after it the encoder, written from the same tables. -/

namespace Sys2Proof

/-! ### Selectors (section 2) -/

/-- `R8` by index (R93). -/
def R8.ofCode (i : BitVec 3) : R8 :=
  match i.toNat with
  | 0 => .b | 1 => .c | 2 => .d | 3 => .e | 4 => .h | 5 => .l | 6 => .hlInd | _ => .a

/-- `R16` by index (R94). -/
def R16.ofCode (i : BitVec 2) : R16 :=
  match i.toNat with
  | 0 => .bc | 1 => .de | 2 => .hl | _ => .sp

/-- `R16STK` by index (R95). -/
def R16stk.ofCode (i : BitVec 2) : R16stk :=
  match i.toNat with
  | 0 => .bc | 1 => .de | 2 => .hl | _ => .af

/-- `R16MEM` by index (R96). -/
def R16mem.ofCode (i : BitVec 2) : R16mem :=
  match i.toNat with
  | 0 => .bc | 1 => .de | 2 => .hlInc | _ => .hlDec

/-- `COND` by index (R98). -/
def Cond.ofCode (i : BitVec 2) : Cond :=
  match i.toNat with
  | 0 => .nz | 1 => .z | 2 => .nc | _ => .c

/-- The ALU operation by index (R105). -/
def AluOp.ofCode (i : BitVec 3) : AluOp :=
  match i.toNat with
  | 0 => .add | 1 => .adc | 2 => .sub | 3 => .sbc | 4 => .and | 5 => .xor | 6 => .or | _ => .cp

/-- The rotate or shift operation by index (R106). -/
def RotOp.ofCode (i : BitVec 3) : RotOp :=
  match i.toNat with
  | 0 => .rlc | 1 => .rrc | 2 => .rl | 3 => .rr | 4 => .sla | 5 => .sra | 6 => .swap | _ => .srl

/-- A three-bit index used directly: the bit index of BIT, RES, SET and the target index of RST (R99, R107). -/
def indexOfCode (i : BitVec 3) : Fin 8 := i.toFin

/-! ### Fields of an opcode byte (R92) -/

/-- `op[7:6]`: the block. -/
def fieldBlock (op : Byte) : BitVec 2 := op.extractLsb' 6 2
/-- `op[5:3]`: `d`, `y`, `o`, `t` or `b`. -/
def fieldY (op : Byte) : BitVec 3 := op.extractLsb' 3 3
/-- `op[2:0]`: `s` or `z`. -/
def fieldZ (op : Byte) : BitVec 3 := op.extractLsb' 0 3
/-- `op[5:4]`: `rr`. -/
def fieldRR (op : Byte) : BitVec 2 := op.extractLsb' 4 2
/-- `op[3]`: `q`. -/
def fieldQ (op : Byte) : Bool := op.getLsbD 3
/-- `op[4:3]`: `cc`. -/
def fieldCC (op : Byte) : BitVec 2 := op.extractLsb' 3 2

/-- `imm16`, little-endian: the byte at `pc + 1` is bits 7..0 (R99). -/
def imm16OfBytes (lo hi : Byte) : Word := hi ++ lo

/-! ### The four blocks and the CB space (R100 to R104) -/

/-- The instruction of an ALU operation with an `R8` source (block 2, R102). -/
def aluR8 (o : AluOp) (s : R8) : Instr :=
  match o with
  | .add => .addAR8 s | .adc => .adcAR8 s | .sub => .subAR8 s | .sbc => .sbcAR8 s
  | .and => .andAR8 s | .xor => .xorAR8 s | .or => .orAR8 s | .cp => .cpAR8 s

/-- The instruction of an ALU operation with an immediate (block 3, `11ooo110`, R103). -/
def aluImm8 (o : AluOp) (n : Byte) : Instr :=
  match o with
  | .add => .addAImm8 n | .adc => .adcAImm8 n | .sub => .subAImm8 n | .sbc => .sbcAImm8 n
  | .and => .andAImm8 n | .xor => .xorAImm8 n | .or => .orAImm8 n | .cp => .cpAImm8 n

/-- The instruction of a rotate or shift operation (CB space, R104). -/
def rotR8 (o : RotOp) (s : R8) : Instr :=
  match o with
  | .rlc => .rlcR8 s | .rrc => .rrcR8 s | .rl => .rlR8 s | .rr => .rrR8 s
  | .sla => .slaR8 s | .sra => .sraR8 s | .swap => .swapR8 s | .srl => .srlR8 s

/-- Block 0 (R100). -/
def decodeBlock0 (op b1 b2 : Byte) : Instr :=
  match (fieldZ op).toNat with
  | 0 =>
    match (fieldY op).toNat with
    | 0 => .nop
    | 1 => .ldImm16Sp (imm16OfBytes b1 b2)
    | 2 => .stop b1
    | 3 => .jrE8 b1
    | _ => .jrCondE8 (Cond.ofCode (fieldCC op)) b1
  | 1 => if fieldQ op then .addHlR16 (R16.ofCode (fieldRR op)) else .ldR16Imm16 (R16.ofCode (fieldRR op)) (imm16OfBytes b1 b2)
  | 2 => if fieldQ op then .ldAR16mem (R16mem.ofCode (fieldRR op)) else .ldR16memA (R16mem.ofCode (fieldRR op))
  | 3 => if fieldQ op then .decR16 (R16.ofCode (fieldRR op)) else .incR16 (R16.ofCode (fieldRR op))
  | 4 => .incR8 (R8.ofCode (fieldY op))
  | 5 => .decR8 (R8.ofCode (fieldY op))
  | 6 => .ldR8Imm8 (R8.ofCode (fieldY op)) b1
  | _ =>
    match (fieldY op).toNat with
    | 0 => .rlca | 1 => .rrca | 2 => .rla | 3 => .rra | 4 => .daa | 5 => .cpl | 6 => .scf | _ => .ccf

/-- Block 1 (R101): `LD r8, r8'`, with the one exception 0x76 = HALT. -/
def decodeBlock1 (op : Byte) : Instr :=
  if op = 0x76 then .halt else .ldR8R8 (R8.ofCode (fieldY op)) (R8.ofCode (fieldZ op))

/-- Block 2 (R102): the ALU group. -/
def decodeBlock2 (op : Byte) : Instr := aluR8 (AluOp.ofCode (fieldY op)) (R8.ofCode (fieldZ op))

/-- The CB space (R104): all 256 values of the second byte are defined. -/
def decodeCb (cb : Byte) : Instr :=
  match (fieldBlock cb).toNat with
  | 0 => rotR8 (RotOp.ofCode (fieldY cb)) (R8.ofCode (fieldZ cb))
  | 1 => .bitBR8 (indexOfCode (fieldY cb)) (R8.ofCode (fieldZ cb))
  | 2 => .resBR8 (indexOfCode (fieldY cb)) (R8.ofCode (fieldZ cb))
  | _ => .setBR8 (indexOfCode (fieldY cb)) (R8.ofCode (fieldZ cb))

/-- Block 3 (R103), the prefix 0xCB (R111) and the eleven undefined bytes (R108). -/
def decodeBlock3 (op b1 b2 : Byte) : Instr :=
  match (fieldZ op).toNat with
  | 0 =>
    match (fieldY op).toNat with
    | 4 => .ldhImm8A b1
    | 5 => .addSpE8 b1
    | 6 => .ldhAImm8 b1
    | 7 => .ldHlSpE8 b1
    | _ => .retCond (Cond.ofCode (fieldCC op))
  | 1 =>
    if fieldQ op then
      match (fieldRR op).toNat with
      | 0 => .ret | 1 => .reti | 2 => .jpHl | _ => .ldSpHl
    else .popR16stk (R16stk.ofCode (fieldRR op))
  | 2 =>
    match (fieldY op).toNat with
    | 4 => .ldhCA
    | 5 => .ldImm16A (imm16OfBytes b1 b2)
    | 6 => .ldhAC
    | 7 => .ldAImm16 (imm16OfBytes b1 b2)
    | _ => .jpCondImm16 (Cond.ofCode (fieldCC op)) (imm16OfBytes b1 b2)
  | 3 =>
    match (fieldY op).toNat with
    | 0 => .jpImm16 (imm16OfBytes b1 b2)
    | 1 => decodeCb b1
    | 2 => .undefinedD3 | 3 => .undefinedDB | 4 => .undefinedE3 | 5 => .undefinedEB | 6 => .di | _ => .ei
  | 4 =>
    match (fieldY op).toNat with
    | 4 => .undefinedE4 | 5 => .undefinedEC | 6 => .undefinedF4 | 7 => .undefinedFC
    | _ => .callCondImm16 (Cond.ofCode (fieldCC op)) (imm16OfBytes b1 b2)
  | 5 =>
    if fieldQ op then
      match (fieldRR op).toNat with
      | 0 => .callImm16 (imm16OfBytes b1 b2) | 1 => .undefinedDD | 2 => .undefinedED | _ => .undefinedFD
    else .pushR16stk (R16stk.ofCode (fieldRR op))
  | 6 => aluImm8 (AluOp.ofCode (fieldY op)) b1
  | _ => .rstTgt3 (indexOfCode (fieldY op))

/-- The decoder as a total function of the first byte and the two bytes after it (R90, R110). It does not look at a byte
beyond the instruction's length. -/
def decodeOp (op b1 b2 : Byte) : Instr :=
  match (fieldBlock op).toNat with
  | 0 => decodeBlock0 op b1 b2
  | 1 => decodeBlock1 op
  | 2 => decodeBlock2 op
  | _ => decodeBlock3 op b1 b2

/-- The length in bytes, by the first byte alone (R91): the formats F3, then F2I, F2E, F2P and FCB, then F1. -/
def opLength (op : Byte) : Nat :=
  if op ∈ ([0x01, 0x11, 0x21, 0x31, 0x08, 0xEA, 0xFA, 0xC3, 0xC2, 0xCA, 0xD2, 0xDA, 0xCD, 0xC4, 0xCC, 0xD4, 0xDC] : List Byte)
  then 3
  else if op ∈ ([0x06, 0x0E, 0x16, 0x1E, 0x26, 0x2E, 0x36, 0x3E, 0xC6, 0xCE, 0xD6, 0xDE, 0xE6, 0xEE, 0xF6, 0xFE, 0xE0, 0xF0,
    0x18, 0x20, 0x28, 0x30, 0x38, 0xE8, 0xF8, 0x10, 0xCB] : List Byte)
  then 2
  else 1

/-- Why a list of bytes is not an instruction. Every byte value decodes; only a list that ends too early does not. -/
inductive DecodeError where
  /-- There is no first byte. -/
  | noOpcode
  /-- The list ends inside the instruction that begins with `op`. -/
  | truncated (op : Byte)
  deriving DecidableEq, Repr

/-- The decoder over a list of bytes (R90): the instruction and the bytes after it. -/
def decode : List Byte → Except DecodeError (Instr × List Byte)
  | [] => .error .noOpcode
  | op :: rest =>
    match opLength op, rest with
    | 1, rest => .ok (decodeOp op 0 0, rest)
    | 2, b1 :: rest => .ok (decodeOp op b1 0, rest)
    | 3, b1 :: b2 :: rest => .ok (decodeOp op b1 b2, rest)
    | _, _ => .error (.truncated op)

/-- The bytes of a table word, the first at the lowest address; bits from `nbits` up are zero. -/
def tableWordBytes (nbits w : Nat) : Byte × Byte × Byte :=
  let v := w % 2 ^ nbits
  (BitVec.ofNat 8 v, BitVec.ofNat 8 (v / 2 ^ 8), BitVec.ofNat 8 (v / 2 ^ 16))

/-- The instruction the decoder reads from a word numbered as spec/opcode_table.json numbers it (bit 0 the least significant bit of
the first byte). A row of the table's space `cb` numbers its SECOND byte: its word is given here as `0xCB + 256 * cb`. -/
def decodeTableWord (nbits w : Nat) : Option Instr :=
  let (b0, b1, b2) := tableWordBytes nbits w
  match decode [b0, b1, b2] with
  | .ok (i, _) => some i
  | .error _ => none

/-! ### The encoder -/

/-- The index of an `R8` operand (R93). -/
def R8.code : R8 → BitVec 3
  | .b => 0 | .c => 1 | .d => 2 | .e => 3 | .h => 4 | .l => 5 | .hlInd => 6 | .a => 7

/-- The index of an `R16` operand (R94). -/
def R16.code : R16 → BitVec 2
  | .bc => 0 | .de => 1 | .hl => 2 | .sp => 3

/-- The index of an `R16STK` operand (R95). -/
def R16stk.code : R16stk → BitVec 2
  | .bc => 0 | .de => 1 | .hl => 2 | .af => 3

/-- The index of an `R16MEM` operand (R96). -/
def R16mem.code : R16mem → BitVec 2
  | .bc => 0 | .de => 1 | .hlInc => 2 | .hlDec => 3

/-- The index of a condition (R98). -/
def Cond.code : Cond → BitVec 2
  | .nz => 0 | .z => 1 | .nc => 2 | .c => 3

/-- A bit index or RST target index as its three bits (R99, R107). -/
def indexCode (i : Fin 8) : BitVec 3 := BitVec.ofFin i

/-- An opcode byte with one three-bit field in bits 5..3: `xxdddzzz`. -/
def opYZ (x : BitVec 2) (y z : BitVec 3) : Byte := x ++ y ++ z

/-- An opcode byte with a two-bit field in bits 5..4: `xxrrzzzz`. -/
def opRR (x rr : BitVec 2) (z : BitVec 4) : Byte := x ++ rr ++ z

/-- An opcode byte with a condition in bits 4..3: `xxxcczzz`. -/
def opCC (x : BitVec 3) (cc : BitVec 2) (z : BitVec 3) : Byte := x ++ cc ++ z

/-- The two bytes of an `imm16`, low byte first (R91, F3). -/
def imm16Bytes (w : Word) : List Byte := [w.extractLsb' 0 8, w.extractLsb' 8 8]

/-- The bytes of an instruction (R91, R100 to R104). -/
def encode : Instr → List Byte
  | .nop => [0b00000000]
  | .ldR16Imm16 rr imm16 => opRR 0b00 rr.code 0b0001 :: imm16Bytes imm16
  | .ldR16memA rr => [opRR 0b00 rr.code 0b0010]
  | .ldAR16mem rr => [opRR 0b00 rr.code 0b1010]
  | .ldImm16Sp imm16 => 0b00001000 :: imm16Bytes imm16
  | .incR16 rr => [opRR 0b00 rr.code 0b0011]
  | .decR16 rr => [opRR 0b00 rr.code 0b1011]
  | .addHlR16 rr => [opRR 0b00 rr.code 0b1001]
  | .incR8 dst => [opYZ 0b00 dst.code 0b100]
  | .decR8 dst => [opYZ 0b00 dst.code 0b101]
  | .ldR8Imm8 dst imm8 => [opYZ 0b00 dst.code 0b110, imm8]
  | .rlca => [0b00000111]
  | .rrca => [0b00001111]
  | .rla => [0b00010111]
  | .rra => [0b00011111]
  | .daa => [0b00100111]
  | .cpl => [0b00101111]
  | .scf => [0b00110111]
  | .ccf => [0b00111111]
  | .jrE8 e8 => [0b00011000, e8]
  | .jrCondE8 cc e8 => [opCC 0b001 cc.code 0b000, e8]
  | .stop pad => [0b00010000, pad]
  | .halt => [0b01110110]
  | .ldR8R8 dst src => [opYZ 0b01 dst.code src.code]
  | .addAR8 src => [opYZ 0b10 0b000 src.code]
  | .adcAR8 src => [opYZ 0b10 0b001 src.code]
  | .subAR8 src => [opYZ 0b10 0b010 src.code]
  | .sbcAR8 src => [opYZ 0b10 0b011 src.code]
  | .andAR8 src => [opYZ 0b10 0b100 src.code]
  | .xorAR8 src => [opYZ 0b10 0b101 src.code]
  | .orAR8 src => [opYZ 0b10 0b110 src.code]
  | .cpAR8 src => [opYZ 0b10 0b111 src.code]
  | .addAImm8 imm8 => [0b11000110, imm8]
  | .adcAImm8 imm8 => [0b11001110, imm8]
  | .subAImm8 imm8 => [0b11010110, imm8]
  | .sbcAImm8 imm8 => [0b11011110, imm8]
  | .andAImm8 imm8 => [0b11100110, imm8]
  | .xorAImm8 imm8 => [0b11101110, imm8]
  | .orAImm8 imm8 => [0b11110110, imm8]
  | .cpAImm8 imm8 => [0b11111110, imm8]
  | .retCond cc => [opCC 0b110 cc.code 0b000]
  | .ret => [0b11001001]
  | .reti => [0b11011001]
  | .jpCondImm16 cc imm16 => opCC 0b110 cc.code 0b010 :: imm16Bytes imm16
  | .jpImm16 imm16 => 0b11000011 :: imm16Bytes imm16
  | .jpHl => [0b11101001]
  | .callCondImm16 cc imm16 => opCC 0b110 cc.code 0b100 :: imm16Bytes imm16
  | .callImm16 imm16 => 0b11001101 :: imm16Bytes imm16
  | .rstTgt3 t => [opYZ 0b11 (indexCode t) 0b111]
  | .popR16stk rr => [opRR 0b11 rr.code 0b0001]
  | .pushR16stk rr => [opRR 0b11 rr.code 0b0101]
  | .prefixCb cb => [0b11001011, cb]
  | .ldhCA => [0b11100010]
  | .ldhImm8A imm8 => [0b11100000, imm8]
  | .ldImm16A imm16 => 0b11101010 :: imm16Bytes imm16
  | .ldhAC => [0b11110010]
  | .ldhAImm8 imm8 => [0b11110000, imm8]
  | .ldAImm16 imm16 => 0b11111010 :: imm16Bytes imm16
  | .addSpE8 e8 => [0b11101000, e8]
  | .ldHlSpE8 e8 => [0b11111000, e8]
  | .ldSpHl => [0b11111001]
  | .di => [0b11110011]
  | .ei => [0b11111011]
  | .undefinedD3 => [0xD3]
  | .undefinedDB => [0xDB]
  | .undefinedDD => [0xDD]
  | .undefinedE3 => [0xE3]
  | .undefinedE4 => [0xE4]
  | .undefinedEB => [0xEB]
  | .undefinedEC => [0xEC]
  | .undefinedED => [0xED]
  | .undefinedF4 => [0xF4]
  | .undefinedFC => [0xFC]
  | .undefinedFD => [0xFD]
  | .rlcR8 src => [0xCB, opYZ 0b00 0b000 src.code]
  | .rrcR8 src => [0xCB, opYZ 0b00 0b001 src.code]
  | .rlR8 src => [0xCB, opYZ 0b00 0b010 src.code]
  | .rrR8 src => [0xCB, opYZ 0b00 0b011 src.code]
  | .slaR8 src => [0xCB, opYZ 0b00 0b100 src.code]
  | .sraR8 src => [0xCB, opYZ 0b00 0b101 src.code]
  | .swapR8 src => [0xCB, opYZ 0b00 0b110 src.code]
  | .srlR8 src => [0xCB, opYZ 0b00 0b111 src.code]
  | .bitBR8 b src => [0xCB, opYZ 0b01 (indexCode b) src.code]
  | .resBR8 b src => [0xCB, opYZ 0b10 (indexCode b) src.code]
  | .setBR8 b src => [0xCB, opYZ 0b11 (indexCode b) src.code]

/-- The length of an instruction in bytes (R91), read from its constructor's format: F3 is 3; F2I, F2E, F2P and FCB are 2; F1 is 1. -/
def Instr.length : Instr → Nat
  | .ldR16Imm16 _ _ | .ldImm16Sp _ | .ldImm16A _ | .ldAImm16 _ | .jpImm16 _ | .jpCondImm16 _ _ | .callImm16 _
  | .callCondImm16 _ _ => 3
  | .ldR8Imm8 _ _ | .addAImm8 _ | .adcAImm8 _ | .subAImm8 _ | .sbcAImm8 _ | .andAImm8 _ | .xorAImm8 _ | .orAImm8 _
  | .cpAImm8 _ | .ldhImm8A _ | .ldhAImm8 _ | .jrE8 _ | .jrCondE8 _ _ | .addSpE8 _ | .ldHlSpE8 _ | .stop _ | .prefixCb _
  | .rlcR8 _ | .rrcR8 _ | .rlR8 _ | .rrR8 _ | .slaR8 _ | .sraR8 _ | .swapR8 _ | .srlR8 _ | .bitBR8 _ _ | .resBR8 _ _
  | .setBR8 _ _ => 2
  | _ => 1

end Sys2Proof
end

