-- ==== Sys2Proof/Machine/Rotates.lean ====
section
/-! DEFINITION. Rotates and shifts (spec/42_rotates_shifts.md). -/

namespace Sys2Proof.Machine

/-- An accumulator rotate: one byte, Z forced to 0 (section 1). -/
def rotateA (o : RotOp) (s : State) : Result :=
  let r := rotate o s.a s.flags.c
  .next (((s.setA r.1).setFlags (accRotateFlags r)).advance 1)

/-- A CB rotate or shift of `R8[s]`: two bytes, one read then one write (R182). -/
def rotateR8 (o : RotOp) (r : R8) (s : State) : Result :=
  let res := rotate o (s.getR8 r) s.flags.c
  .next (((s.setR8 r res.1).setFlags (rotateFlags res)).advance 2)

/-- R170 -/
def execRlca (s : State) : Result := rotateA .rlc s
/-- R171 -/
def execRrca (s : State) : Result := rotateA .rrc s
/-- R172 -/
def execRla (s : State) : Result := rotateA .rl s
/-- R173 -/
def execRra (s : State) : Result := rotateA .rr s

/-- R174 -/
def execRlcR8 (r : R8) (s : State) : Result := rotateR8 .rlc r s
/-- R175 -/
def execRrcR8 (r : R8) (s : State) : Result := rotateR8 .rrc r s
/-- R176 -/
def execRlR8 (r : R8) (s : State) : Result := rotateR8 .rl r s
/-- R177 -/
def execRrR8 (r : R8) (s : State) : Result := rotateR8 .rr r s
/-- R178 -/
def execSlaR8 (r : R8) (s : State) : Result := rotateR8 .sla r s
/-- R179 -/
def execSraR8 (r : R8) (s : State) : Result := rotateR8 .sra r s
/-- R180 -/
def execSwapR8 (r : R8) (s : State) : Result := rotateR8 .swap r s
/-- R181 -/
def execSrlR8 (r : R8) (s : State) : Result := rotateR8 .srl r s

end Sys2Proof.Machine
end

