-- ==== Sys2Proof/Machine/BitOps.lean ====
section
/-! DEFINITION. BIT, RES and SET (spec/43_bitops.md), and the prefix row, which runs the CB-space instruction of its second byte. -/

namespace Sys2Proof.Machine

/-- R190: nothing is written back. -/
def execBitBR8 (b : Fin 8) (r : R8) (s : State) : Result := .next ((s.setFlags (bitFlags b (s.getR8 r) s.flags)).advance 2)

/-- R191: for `(HL)` one read, then one write, whatever the bit was. -/
def execResBR8 (b : Fin 8) (r : R8) (s : State) : Result := .next ((s.setR8 r (resBit b (s.getR8 r))).advance 2)

/-- R192 -/
def execSetBR8 (b : Fin 8) (r : R8) (s : State) : Result := .next ((s.setR8 r (setBit b (s.getR8 r))).advance 2)

/-- The prefix row (spec/30_encoding.md R111): the step that fetches 0xCB also fetches `cb` and executes the CB-space instruction
of R104, whose meanings take PC past both bytes. -/
def execPrefixCb (cb : Byte) (s : State) : Result :=
  match (fieldBlock cb).toNat with
  | 0 => rotateR8 (RotOp.ofCode (fieldY cb)) (R8.ofCode (fieldZ cb)) s
  | 1 => execBitBR8 (indexOfCode (fieldY cb)) (R8.ofCode (fieldZ cb)) s
  | 2 => execResBR8 (indexOfCode (fieldY cb)) (R8.ofCode (fieldZ cb)) s
  | _ => execSetBR8 (indexOfCode (fieldY cb)) (R8.ofCode (fieldZ cb)) s

end Sys2Proof.Machine
end

