-- ==== Sys2Proof/Machine/ControlFlow.lean ====
section
/-! DEFINITION. Control transfer (spec/45_control.md). No flag is written. -/

namespace Sys2Proof.Machine

/-- The target of JR: `pc + 2 + sext_16(e8)` (R230). -/
def jrTarget (e8 : Byte) (s : State) : Word := s.pc + 2 + sext16 e8

/-- R230 -/
def execJrE8 (e8 : Byte) (s : State) : Result := .next (s.setPc (jrTarget e8 s))

/-- R231 -/
def execJrCondE8 (cc : Cond) (e8 : Byte) (s : State) : Result :=
  .next (if condHolds cc s.flags then s.setPc (jrTarget e8 s) else s.advance 2)

/-- R232 -/
def execJpImm16 (imm16 : Word) (s : State) : Result := .next (s.setPc imm16)

/-- R233 -/
def execJpCondImm16 (cc : Cond) (imm16 : Word) (s : State) : Result :=
  .next (if condHolds cc s.flags then s.setPc imm16 else s.advance 3)

/-- R234: the value of HL, not the memory there. -/
def execJpHl (s : State) : Result := .next (s.setPc s.hl)

/-- R235 -/
def execCallImm16 (imm16 : Word) (s : State) : Result := .next (s.callTo (s.pc + 3) imm16)

/-- R236 -/
def execCallCondImm16 (cc : Cond) (imm16 : Word) (s : State) : Result :=
  .next (if condHolds cc s.flags then s.callTo (s.pc + 3) imm16 else s.advance 3)

/-- R237 -/
def execRet (s : State) : Result := .next s.returnToPopped

/-- R238: when not taken the stack is not read. -/
def execRetCond (cc : Cond) (s : State) : Result :=
  .next (if condHolds cc s.flags then s.returnToPopped else s.advance 1)

/-- R239 -/
def execReti (s : State) : Result := .next s.returnFromInterrupt

/-- R240 -/
def execRstTgt3 (t : Fin 8) (s : State) : Result := .next (s.callTo (s.pc + 1) (rstTarget t))

end Sys2Proof.Machine
end

