-- ==== Sys2Proof/Machine/Loads.lean ====
section
/-! DEFINITION. Loads and stores (spec/44_loads.md). No flag is written. -/

namespace Sys2Proof.Machine

/-- R200: the source is read (at the old HL) before the destination is written. -/
def execLdR8R8 (dst src : R8) (s : State) : Result := .next ((s.setR8 dst (s.getR8 src)).advance 1)

/-- R201 -/
def execLdR8Imm8 (dst : R8) (imm8 : Byte) (s : State) : Result := .next ((s.setR8 dst imm8).advance 2)

/-- R202 -/
def execLdR16Imm16 (rr : R16) (imm16 : Word) (s : State) : Result := .next ((s.setR16 rr imm16).advance 3)

/-- R203: the store uses HL before the change. -/
def execLdR16memA (rr : R16mem) (s : State) : Result :=
  .next (((s.write8 (s.r16memAddr rr) s.a).r16memPost rr).advance 1)

/-- R204 -/
def execLdAR16mem (rr : R16mem) (s : State) : Result :=
  .next (((s.setA (s.read8 (s.r16memAddr rr))).r16memPost rr).advance 1)

/-- R205 -/
def execLdImm16Sp (imm16 : Word) (s : State) : Result := .next ((s.write16 imm16 s.sp).advance 3)

/-- R206 -/
def execLdSpHl (s : State) : Result := .next ((s.setSp s.hl).advance 1)

/-- R207 -/
def execLdImm16A (imm16 : Word) (s : State) : Result := .next ((s.write8 imm16 s.a).advance 3)

/-- R208 -/
def execLdAImm16 (imm16 : Word) (s : State) : Result := .next ((s.setA (s.read8 imm16)).advance 3)

/-- R209: C is the register. -/
def execLdhCA (s : State) : Result := .next ((s.write8 (highPage s.c) s.a).advance 1)

/-- R210 -/
def execLdhImm8A (imm8 : Byte) (s : State) : Result := .next ((s.write8 (highPage imm8) s.a).advance 2)

/-- R211 -/
def execLdhAC (s : State) : Result := .next ((s.setA (s.read8 (highPage s.c))).advance 1)

/-- R212 -/
def execLdhAImm8 (imm8 : Byte) (s : State) : Result := .next ((s.setA (s.read8 (highPage imm8))).advance 2)

end Sys2Proof.Machine
end

