-- ==== Sys2Proof/Machine/Misc.lean ====
section
/-! DEFINITION. Miscellaneous and system instructions (spec/47_misc.md). -/

namespace Sys2Proof.Machine

/-- R260 -/
def execNop (s : State) : Result := .next (s.advance 1)

/-- R261 -/
def execDaa (s : State) : Result :=
  let r := daaAdjust s.a s.flags
  .next (((s.setA r.1).setFlags r.2).advance 1)

/-- R262: Z and C unchanged. -/
def execCpl (s : State) : Result := .next (((s.setA (~~~s.a)).setFlags { s.flags with n := true, h := true }).advance 1)

/-- R263: Z unchanged. -/
def execScf (s : State) : Result := .next ((s.setFlags { s.flags with n := false, h := false, c := true }).advance 1)

/-- R264: Z unchanged. -/
def execCcf (s : State) : Result := .next ((s.setFlags { s.flags with n := false, h := false, c := !s.flags.c }).advance 1)

/-- R265: immediate, and a pending enable is cancelled. -/
def execDi (s : State) : Result := .next (((s.setIme false).setImePending 0).advance 1)

/-- R266: IME itself is not written. -/
def execEi (s : State) : Result := .next ((s.setImePending 1).advance 1)

/-- R268; the HALT bug is not modelled (spec/60_exceptions.md R322). -/
def execHalt (s : State) : Result := .next ((s.setHalted true).advance 1)

/-- R269: the padding byte is read and ignored. -/
def execStop (_pad : Byte) (s : State) : Result := .next ((s.setStopped true).advance 2)

/-! The eleven undefined opcodes (R270): the report, which a model treats as a fault (spec/60_exceptions.md R300). -/

/-- R270 -/
def execUndefinedD3 (s : State) : Result := raiseUndefined 0xD3 s
/-- R270 -/
def execUndefinedDB (s : State) : Result := raiseUndefined 0xDB s
/-- R270 -/
def execUndefinedDD (s : State) : Result := raiseUndefined 0xDD s
/-- R270 -/
def execUndefinedE3 (s : State) : Result := raiseUndefined 0xE3 s
/-- R270 -/
def execUndefinedE4 (s : State) : Result := raiseUndefined 0xE4 s
/-- R270 -/
def execUndefinedEB (s : State) : Result := raiseUndefined 0xEB s
/-- R270 -/
def execUndefinedEC (s : State) : Result := raiseUndefined 0xEC s
/-- R270 -/
def execUndefinedED (s : State) : Result := raiseUndefined 0xED s
/-- R270 -/
def execUndefinedF4 (s : State) : Result := raiseUndefined 0xF4 s
/-- R270 -/
def execUndefinedFC (s : State) : Result := raiseUndefined 0xFC s
/-- R270 -/
def execUndefinedFD (s : State) : Result := raiseUndefined 0xFD s

end Sys2Proof.Machine
end

