-- ==== Sys2Proof/Machine/Stack.lean ====
section
/-! DEFINITION. PUSH and POP (spec/46_stack.md). -/

namespace Sys2Proof.Machine

/-- R250 -/
def execPushR16stk (rr : R16stk) (s : State) : Result := .next ((s.push16 (s.getR16stk rr)).advance 1)

/-- R251: POP AF writes all four flags from the masked byte. -/
def execPopR16stk (rr : R16stk) (s : State) : Result := .next ((s.pop16.2.setR16stk rr s.pop16.1).advance 1)

end Sys2Proof.Machine
end

