-- ==== Sys2Proof/Machine/Dispatch.lean ====
section
/-! DEFINITION. The dispatch: one arm per instruction, each a call of that instruction's own meaning. -/

namespace Sys2Proof.Machine

def exec (i : Instr) (s : State) : Host.Outcome State Fault Refusal :=
  match i with
  | .nop => Sys2Proof.Machine.execNop s
  | .ldR16Imm16 rr imm16 => Sys2Proof.Machine.execLdR16Imm16 rr imm16 s
  | .ldR16memA rr => Sys2Proof.Machine.execLdR16memA rr s
  | .ldAR16mem rr => Sys2Proof.Machine.execLdAR16mem rr s
  | .ldImm16Sp imm16 => Sys2Proof.Machine.execLdImm16Sp imm16 s
  | .incR16 rr => Sys2Proof.Machine.execIncR16 rr s
  | .decR16 rr => Sys2Proof.Machine.execDecR16 rr s
  | .addHlR16 rr => Sys2Proof.Machine.execAddHlR16 rr s
  | .incR8 dst => Sys2Proof.Machine.execIncR8 dst s
  | .decR8 dst => Sys2Proof.Machine.execDecR8 dst s
  | .ldR8Imm8 dst imm8 => Sys2Proof.Machine.execLdR8Imm8 dst imm8 s
  | .rlca => Sys2Proof.Machine.execRlca s
  | .rrca => Sys2Proof.Machine.execRrca s
  | .rla => Sys2Proof.Machine.execRla s
  | .rra => Sys2Proof.Machine.execRra s
  | .daa => Sys2Proof.Machine.execDaa s
  | .cpl => Sys2Proof.Machine.execCpl s
  | .scf => Sys2Proof.Machine.execScf s
  | .ccf => Sys2Proof.Machine.execCcf s
  | .jrE8 e8 => Sys2Proof.Machine.execJrE8 e8 s
  | .jrCondE8 cc e8 => Sys2Proof.Machine.execJrCondE8 cc e8 s
  | .stop pad => Sys2Proof.Machine.execStop pad s
  | .halt => Sys2Proof.Machine.execHalt s
  | .ldR8R8 dst src => Sys2Proof.Machine.execLdR8R8 dst src s
  | .addAR8 src => Sys2Proof.Machine.execAddAR8 src s
  | .adcAR8 src => Sys2Proof.Machine.execAdcAR8 src s
  | .subAR8 src => Sys2Proof.Machine.execSubAR8 src s
  | .sbcAR8 src => Sys2Proof.Machine.execSbcAR8 src s
  | .andAR8 src => Sys2Proof.Machine.execAndAR8 src s
  | .xorAR8 src => Sys2Proof.Machine.execXorAR8 src s
  | .orAR8 src => Sys2Proof.Machine.execOrAR8 src s
  | .cpAR8 src => Sys2Proof.Machine.execCpAR8 src s
  | .addAImm8 imm8 => Sys2Proof.Machine.execAddAImm8 imm8 s
  | .adcAImm8 imm8 => Sys2Proof.Machine.execAdcAImm8 imm8 s
  | .subAImm8 imm8 => Sys2Proof.Machine.execSubAImm8 imm8 s
  | .sbcAImm8 imm8 => Sys2Proof.Machine.execSbcAImm8 imm8 s
  | .andAImm8 imm8 => Sys2Proof.Machine.execAndAImm8 imm8 s
  | .xorAImm8 imm8 => Sys2Proof.Machine.execXorAImm8 imm8 s
  | .orAImm8 imm8 => Sys2Proof.Machine.execOrAImm8 imm8 s
  | .cpAImm8 imm8 => Sys2Proof.Machine.execCpAImm8 imm8 s
  | .retCond cc => Sys2Proof.Machine.execRetCond cc s
  | .ret => Sys2Proof.Machine.execRet s
  | .reti => Sys2Proof.Machine.execReti s
  | .jpCondImm16 cc imm16 => Sys2Proof.Machine.execJpCondImm16 cc imm16 s
  | .jpImm16 imm16 => Sys2Proof.Machine.execJpImm16 imm16 s
  | .jpHl => Sys2Proof.Machine.execJpHl s
  | .callCondImm16 cc imm16 => Sys2Proof.Machine.execCallCondImm16 cc imm16 s
  | .callImm16 imm16 => Sys2Proof.Machine.execCallImm16 imm16 s
  | .rstTgt3 t => Sys2Proof.Machine.execRstTgt3 t s
  | .popR16stk rr => Sys2Proof.Machine.execPopR16stk rr s
  | .pushR16stk rr => Sys2Proof.Machine.execPushR16stk rr s
  | .prefixCb cb => Sys2Proof.Machine.execPrefixCb cb s
  | .ldhCA => Sys2Proof.Machine.execLdhCA s
  | .ldhImm8A imm8 => Sys2Proof.Machine.execLdhImm8A imm8 s
  | .ldImm16A imm16 => Sys2Proof.Machine.execLdImm16A imm16 s
  | .ldhAC => Sys2Proof.Machine.execLdhAC s
  | .ldhAImm8 imm8 => Sys2Proof.Machine.execLdhAImm8 imm8 s
  | .ldAImm16 imm16 => Sys2Proof.Machine.execLdAImm16 imm16 s
  | .addSpE8 e8 => Sys2Proof.Machine.execAddSpE8 e8 s
  | .ldHlSpE8 e8 => Sys2Proof.Machine.execLdHlSpE8 e8 s
  | .ldSpHl => Sys2Proof.Machine.execLdSpHl s
  | .di => Sys2Proof.Machine.execDi s
  | .ei => Sys2Proof.Machine.execEi s
  | .undefinedD3 => Sys2Proof.Machine.execUndefinedD3 s
  | .undefinedDB => Sys2Proof.Machine.execUndefinedDB s
  | .undefinedDD => Sys2Proof.Machine.execUndefinedDD s
  | .undefinedE3 => Sys2Proof.Machine.execUndefinedE3 s
  | .undefinedE4 => Sys2Proof.Machine.execUndefinedE4 s
  | .undefinedEB => Sys2Proof.Machine.execUndefinedEB s
  | .undefinedEC => Sys2Proof.Machine.execUndefinedEC s
  | .undefinedED => Sys2Proof.Machine.execUndefinedED s
  | .undefinedF4 => Sys2Proof.Machine.execUndefinedF4 s
  | .undefinedFC => Sys2Proof.Machine.execUndefinedFC s
  | .undefinedFD => Sys2Proof.Machine.execUndefinedFD s
  | .rlcR8 src => Sys2Proof.Machine.execRlcR8 src s
  | .rrcR8 src => Sys2Proof.Machine.execRrcR8 src s
  | .rlR8 src => Sys2Proof.Machine.execRlR8 src s
  | .rrR8 src => Sys2Proof.Machine.execRrR8 src s
  | .slaR8 src => Sys2Proof.Machine.execSlaR8 src s
  | .sraR8 src => Sys2Proof.Machine.execSraR8 src s
  | .swapR8 src => Sys2Proof.Machine.execSwapR8 src s
  | .srlR8 src => Sys2Proof.Machine.execSrlR8 src s
  | .bitBR8 b src => Sys2Proof.Machine.execBitBR8 b src s
  | .resBR8 b src => Sys2Proof.Machine.execResBR8 b src s
  | .setBR8 b src => Sys2Proof.Machine.execSetBR8 b src s

end Sys2Proof.Machine
end

