-- ==== Sys2Proof/Machine/Driver.lean ====
section
/-! DEFINITION. The parts of the step driver (spec/48_step_driver.md): the halt and stop gate, the fetch, the tick of the delayed
interrupt enable, and placing an instruction's bytes where the next step fetches. -/

namespace Sys2Proof.Machine

/-- Action 1 (R281): whether the step is an idle tick. -/
def State.idle (s : State) : Bool := s.halted || s.stopped

/-- The instruction the bytes at PC decode to (R283), addresses modulo 2^16 (spec/10_state.md R32). The decoder does not look
beyond the instruction's length; the bus reads made are `fetchAccesses`. -/
def fetchInstr (s : State) : Instr := decodeOp (s.read8 s.pc) (s.read8 (s.pc + 1)) (s.read8 (s.pc + 2))

/-- Action 4 (R284): the tick fires when the captured ime_pending was nonzero and ime_pending still is after the instruction. -/
def imeTick (captured : Nat) (s : State) : State :=
  if captured ≠ 0 ∧ s.imePending ≠ 0 then (s.setIme true).setImePending 0 else s

/-- Action 4 on what the instruction answered. -/
def tickResult (captured : Nat) : Result → Result
  | .next s => .next (imeTick captured s)
  | .fault r => .fault r
  | .refused r => .refused r

/-- The state an emulator that goes on after an `UndefinedOpcode` report continues from: the handler's PC + 1 (spec/47_misc.md R270),
then the tick (spec/90_conflicts.md C6). -/
def resumeAfterUndefined (s : State) : State := imeTick s.imePending (undefinedHandled s)

/-- The bytes of a table word stored at PC, with `halted` and `stopped` clear, so that the next step fetches them. -/
def placeAtPc (w : Byte × Byte × Byte) (s : State) : State :=
  (((s.write8 s.pc w.1).write8 (s.pc + 1) w.2.1).write8 (s.pc + 2) w.2.2).setHalted false |>.setStopped false

end Sys2Proof.Machine
end

