-- ==== Sys2Proof/Machine/Step.lean ====
section
/-! DEFINITION. One step (spec/48_step_driver.md R280), and an instruction placed where the next step fetches it. -/

namespace Sys2Proof.Machine

/-- `step()`: an idle tick while halted or stopped (R281), else capture, execute, commit and tick (R282 to R284). The cycle count
it returns (R285) is `stepCycles`. -/
def step (s : State) : Host.Outcome State Fault Refusal :=
  if s.idle then .next s else tickResult s.imePending (exec (fetchInstr s) s)

/-- `s` with the instruction of a table word where `step` fetches next. -/
def State.withFetchWord (s : State) (nbits w : Nat) : State := placeAtPc (tableWordBytes nbits w) s

end Sys2Proof.Machine
end

