-- ==== Sys2Proof/Machine/Bus.lean ====
section
/-! DEFINITION. The bus accesses of a step, in order (spec/20_memory.md R70, R72, R73). They stand beside the meanings, which act on
plain memory (notes/assumptions/2.md); which address an instruction stores to is read from here by the frame statements. -/

namespace Sys2Proof.Machine

/-- One read of an address, with what memory answers. -/
def readAt (a : Word) (s : State) : BusAccess := .read a (s.read8 a)

/-- The reads of an instruction's bytes: as many as its length, ascending from PC (R70, R71). -/
def fetchAccesses (i : Instr) (s : State) : List BusAccess :=
  (List.range i.length).map fun k => readAt (s.pc + BitVec.ofNat 16 k) s

/-- The two writes of a 16-bit value (R64). -/
def write16Accesses (a v : Word) : List BusAccess := [.write a (loByte v), .write (a + 1) (hiByte v)]

/-- The writes of `push16(v)` (R66). -/
def pushAccesses (v : Word) (s : State) : List BusAccess := write16Accesses (s.sp - 2) v

/-- The reads of `pop16()` (R67). -/
def popAccesses (s : State) : List BusAccess := [readAt s.sp s, readAt (s.sp + 1) s]

/-- A read of an `R8` operand: an access only for `(HL)`. -/
def r8Read (r : R8) (s : State) : List BusAccess := if r = .hlInd then [readAt s.hl s] else []

/-- A write of an `R8` operand: an access only for `(HL)`. -/
def r8Write (r : R8) (v : Byte) (s : State) : List BusAccess := if r = .hlInd then [.write s.hl v] else []

/-- One read, then one write of an `R8` operand (spec/30_encoding.md R97). -/
def r8Modify (r : R8) (v : Byte) (s : State) : List BusAccess := r8Read r s ++ r8Write r v s

/-- The accesses of a CB rotate or shift. -/
def rotateAccesses (o : RotOp) (r : R8) (s : State) : List BusAccess := r8Modify r (rotate o (s.getR8 r) s.flags.c).1 s

/-- The data accesses of an instruction, after its bytes (R73). -/
def dataAccesses (i : Instr) (s : State) : List BusAccess :=
  match i with
  | .ldR8R8 dst src => r8Read src s ++ r8Write dst (s.getR8 src) s
  | .ldR8Imm8 dst imm8 => r8Write dst imm8 s
  | .ldR16memA rr => [.write (s.r16memAddr rr) s.a]
  | .ldAR16mem rr => [readAt (s.r16memAddr rr) s]
  | .ldImm16Sp imm16 => write16Accesses imm16 s.sp
  | .ldImm16A imm16 => [.write imm16 s.a]
  | .ldAImm16 imm16 => [readAt imm16 s]
  | .ldhImm8A imm8 => [.write (highPage imm8) s.a]
  | .ldhAImm8 imm8 => [readAt (highPage imm8) s]
  | .ldhCA => [.write (highPage s.c) s.a]
  | .ldhAC => [readAt (highPage s.c) s]
  | .addAR8 r | .adcAR8 r | .subAR8 r | .sbcAR8 r | .andAR8 r | .xorAR8 r | .orAR8 r | .cpAR8 r => r8Read r s
  | .incR8 dst => r8Modify dst (inc8 (s.getR8 dst) s.flags).1 s
  | .decR8 dst => r8Modify dst (dec8 (s.getR8 dst) s.flags).1 s
  | .rlcR8 r => rotateAccesses .rlc r s
  | .rrcR8 r => rotateAccesses .rrc r s
  | .rlR8 r => rotateAccesses .rl r s
  | .rrR8 r => rotateAccesses .rr r s
  | .slaR8 r => rotateAccesses .sla r s
  | .sraR8 r => rotateAccesses .sra r s
  | .swapR8 r => rotateAccesses .swap r s
  | .srlR8 r => rotateAccesses .srl r s
  | .bitBR8 _ r => r8Read r s
  | .resBR8 b r => r8Modify r (resBit b (s.getR8 r)) s
  | .setBR8 b r => r8Modify r (setBit b (s.getR8 r)) s
  | .prefixCb cb =>
    match (fieldBlock cb).toNat with
    | 0 => rotateAccesses (RotOp.ofCode (fieldY cb)) (R8.ofCode (fieldZ cb)) s
    | 1 => r8Read (R8.ofCode (fieldZ cb)) s
    | 2 => r8Modify (R8.ofCode (fieldZ cb)) (resBit (indexOfCode (fieldY cb)) (s.getR8 (R8.ofCode (fieldZ cb)))) s
    | _ => r8Modify (R8.ofCode (fieldZ cb)) (setBit (indexOfCode (fieldY cb)) (s.getR8 (R8.ofCode (fieldZ cb)))) s
  | .pushR16stk rr => pushAccesses (s.getR16stk rr) s
  | .popR16stk _ => popAccesses s
  | .callImm16 _ => pushAccesses (s.pc + 3) s
  | .callCondImm16 cc _ => if condHolds cc s.flags then pushAccesses (s.pc + 3) s else []
  | .rstTgt3 _ => pushAccesses (s.pc + 1) s
  | .ret | .reti => popAccesses s
  | .retCond cc => if condHolds cc s.flags then popAccesses s else []
  | .nop | .ldR16Imm16 _ _ | .incR16 _ | .decR16 _ | .addHlR16 _ | .rlca | .rrca | .rla | .rra | .daa | .cpl | .scf | .ccf
  | .jrE8 _ | .jrCondE8 _ _ | .stop _ | .halt | .addAImm8 _ | .adcAImm8 _ | .subAImm8 _ | .sbcAImm8 _ | .andAImm8 _
  | .xorAImm8 _ | .orAImm8 _ | .cpAImm8 _ | .jpCondImm16 _ _ | .jpImm16 _ | .jpHl | .addSpE8 _ | .ldHlSpE8 _ | .ldSpHl
  | .di | .ei | .undefinedD3 | .undefinedDB | .undefinedDD | .undefinedE3 | .undefinedE4 | .undefinedEB | .undefinedEC
  | .undefinedED | .undefinedF4 | .undefinedFC | .undefinedFD => []

/-- The accesses of one step: none for an idle tick (R72), else the instruction's bytes, then its data (R70). -/
def stepAccesses (s : State) : List BusAccess :=
  if s.idle then [] else fetchAccesses (fetchInstr s) s ++ dataAccesses (fetchInstr s) s

/-- The accesses of `request_interrupt(n)`: the two writes of the push when it dispatches, else none (R72). -/
def requestAccesses (n : Nat) (s : State) : List BusAccess := if n ≤ 4 ∧ s.ime = true then pushAccesses s.pc s else []

/-- The addresses a list of accesses writes. -/
def writtenAddrs : List BusAccess → List Word
  | [] => []
  | .read _ _ :: l => writtenAddrs l
  | .write a _ :: l => a :: writtenAddrs l

/-- The accesses performed on a state's memory, in order. -/
def performWrites : List BusAccess → State → State
  | [], s => s
  | .read _ _ :: l, s => performWrites l s
  | .write a v :: l, s => performWrites l (s.write8 a v)

end Sys2Proof.Machine
end

