-- ==== Sys2Proof/Machine/Cycles.lean ====
section
/-! DEFINITION. The cycle count `step()` returns (spec/70_reset_and_hazards.md R352): an output nothing reads, so no part of the
state. A count depends on the opcode and, for the four conditional families, on the condition (R353). -/

namespace Sys2Proof.Machine

/-- The count of an instruction with an `R8` operand: with a register, and with `(HL)`. -/
def r8Cycles (r : R8) (reg mem : Nat) : Nat := if r = .hlInd then mem else reg

/-- The count of a conditional instruction. -/
def condCycles (cc : Cond) (s : State) (taken notTaken : Nat) : Nat := if condHolds cc s.flags then taken else notTaken

/-- The table of R352. -/
def cycles (i : Instr) (s : State) : Nat :=
  match i with
  | .nop => 1
  | .ldR16Imm16 _ _ => 3
  | .ldR16memA _ | .ldAR16mem _ => 2
  | .ldImm16Sp _ => 5
  | .incR16 _ | .decR16 _ | .addHlR16 _ => 2
  | .incR8 dst | .decR8 dst => r8Cycles dst 1 3
  | .ldR8Imm8 dst _ => r8Cycles dst 2 3
  | .rlca | .rrca | .rla | .rra | .daa | .cpl | .scf | .ccf => 1
  | .jrE8 _ => 3
  | .jrCondE8 cc _ => condCycles cc s 3 2
  | .stop _ | .halt => 1
  | .ldR8R8 dst src => if dst = .hlInd ∨ src = .hlInd then 2 else 1
  | .addAR8 r | .adcAR8 r | .subAR8 r | .sbcAR8 r | .andAR8 r | .xorAR8 r | .orAR8 r | .cpAR8 r => r8Cycles r 1 2
  | .addAImm8 _ | .adcAImm8 _ | .subAImm8 _ | .sbcAImm8 _ | .andAImm8 _ | .xorAImm8 _ | .orAImm8 _ | .cpAImm8 _ => 2
  | .retCond cc => condCycles cc s 5 2
  | .ret | .reti => 4
  | .jpCondImm16 cc _ => condCycles cc s 4 3
  | .jpImm16 _ => 4
  | .jpHl => 1
  | .callCondImm16 cc _ => condCycles cc s 6 3
  | .callImm16 _ => 6
  | .rstTgt3 _ => 4
  | .popR16stk _ => 3
  | .pushR16stk _ => 4
  | .prefixCb cb => r8Cycles (R8.ofCode (fieldZ cb)) 2 (if fieldBlock cb = 1 then 3 else 4)
  | .ldhCA | .ldhAC => 2
  | .ldhImm8A _ | .ldhAImm8 _ => 3
  | .ldImm16A _ | .ldAImm16 _ => 4
  | .addSpE8 _ => 4
  | .ldHlSpE8 _ => 3
  | .ldSpHl => 2
  | .di | .ei => 1
  | .undefinedD3 | .undefinedDB | .undefinedDD | .undefinedE3 | .undefinedE4 | .undefinedEB | .undefinedEC | .undefinedED
  | .undefinedF4 | .undefinedFC | .undefinedFD => 1
  | .rlcR8 r | .rrcR8 r | .rlR8 r | .rrR8 r | .slaR8 r | .sraR8 r | .swapR8 r | .srlR8 r => r8Cycles r 2 4
  | .bitBR8 _ r => r8Cycles r 2 3
  | .resBR8 _ r | .setBR8 _ r => r8Cycles r 2 4

/-- What `step()` returns (R285): `IDLE_CYCLES` for an idle tick (R281), else the count of the instruction executed. -/
def stepCycles (s : State) : Nat := if s.idle then Config.idleCycles else cycles (fetchInstr s) s

end Sys2Proof.Machine
end

