-- ==== Sys2Proof/Machine/Control.lean ====
section
/-! DEFINITION. The control interface (spec/00_scope.md R6): everything the environment can do to CORE between steps (R8, R9), and
the step of a caller that goes on after an undefined-opcode report. -/

namespace Sys2Proof.Machine

/-- `reset()` (spec/70_reset_and_hazards.md R340 to R343): memory is untouched. -/
def resetOp (init : Config.Init) (s : State) : State := (State.resetWith init).setMem s.mem

/-- One operation of the environment. -/
def control (op : ControlOp) (s : State) : Host.Outcome State Fault Refusal :=
  match op with
  | .step => step s
  | .reset init => .next (resetOp init s)
  | .requestInterrupt n => requestInterrupt n s
  | .setReg8 r v => .next (s.setReg8 r v)
  | .setReg16 r v => .next (s.setReg16 r v)
  | .setFlag g v => .next (s.setFlag g v)
  | .setIme v => .next (s.setIme v)
  | .setImePending n => if n ≤ 1 then .next (s.setImePending n) else .refused (.noSuchImePending n)
  | .setHalted v => .next (s.setHalted v)
  | .setStopped v => .next (s.setStopped v)
  | .poke a v => .next (s.write8 a v)

/-- The source's own policy (spec/47_misc.md R270, spec/60_exceptions.md R300, R310): the report beside the state the caller goes on
from. For proofs about programs `step`, which faults, is the machine. -/
def stepReporting (s : State) : Host.Outcome (State × Option (Byte × Word)) Fault Refusal :=
  match step s with
  | .next t => .next (t, none)
  | .fault (.undefinedOpcode op pc) => .next (resumeAfterUndefined s, some (op, pc))
  | .refused r => .refused r

end Sys2Proof.Machine
end

