-- ==== Sys2Proof/Safety.lean ====
section
/-! DEFINITION. What counts as a safe run, in the terms the claims use. -/

namespace Sys2Proof.Machine

/-- The step goes on: no `UndefinedOpcode` is reported (the premise spec/60_exceptions.md R300 asks of a claim about a program). -/
def SafeStep (s : State) : Prop := ∃ t, step s = .next t

/-- The invariant of every reachable state: memory in canonical form, ime_pending 0 or 1 (spec/10_state.md R35), never halted and
stopped at once (R38), and no enable pending while halted or stopped (spec/48_step_driver.md R286). -/
structure State.Inv (s : State) : Prop where
  mem_wf : Memory.wf s.mem = true
  pending_le : s.imePending ≤ 1
  not_both : ¬ (s.halted = true ∧ s.stopped = true)
  idle_pending : s.idle = true → s.imePending = 0

/-- The operations of the environment that an invariant has to survive: all but the accessors to the control fields, which may
build any launch state (spec/10_state.md R38, R44). -/
def ControlOp.keepsControlFields : ControlOp → Bool
  | .setIme _ | .setImePending _ | .setHalted _ | .setStopped _ => false
  | _ => true

/-- Reachable from some reset, over whatever the environment does between steps but for the accessors to the control fields. -/
inductive Reachable : State → Prop where
  | reset (init : Config.Init) : Reachable (State.resetWith init)
  | control (op : ControlOp) (s t : State) : Reachable s → ControlOp.keepsControlFields op = true → control op s = .next t → Reachable t

end Sys2Proof.Machine
end

