-- ==== Sys2Proof/Certificates/Slice0/Obligations.lean ====
section
/-! DEFINITION. The statements for the provers, and the words they are written in. -/

namespace Sys2Proof.Claims

open Sys2Proof Sys2Proof.Machine

/-! ### Words of the statements: what an instruction does, and its frame -/

/-- The bytes at the front of any list decode to `i`. -/
def Decodes (bytes : List Byte) (i : Instr) : Prop := ∀ rest, decode (bytes ++ rest) = .ok (i, rest)

/-- `exec i s` answers a next state, and the next state is as `P` says. -/
def Completes (i : Instr) (s : State) (P : State → Prop) : Prop := ∃ t, exec i s = .next t ∧ P t

/-- Every 8-bit register (F among them) but those named is unchanged. -/
def SameRegs (but : List Reg8) (s t : State) : Prop := ∀ r, r ∉ but → t.reg8 r = s.reg8 r

/-- Every byte of memory reads as before. -/
def SameMem (s t : State) : Prop := ∀ x : Word, t.read8 x = s.read8 x

/-- Every byte of memory but those named reads as before. -/
def SameMemBut (xs : List Word) (s t : State) : Prop := ∀ x : Word, x ∉ xs → t.read8 x = s.read8 x

/-- IME, ime_pending, halted and stopped are unchanged. -/
def SameControl (s t : State) : Prop :=
  t.ime = s.ime ∧ t.imePending = s.imePending ∧ t.halted = s.halted ∧ t.stopped = s.stopped

/-- Only the named 8-bit registers and PC may differ: SP, the control fields and memory are unchanged. -/
def RegFrame (but : List Reg8) (s t : State) : Prop :=
  SameRegs but s t ∧ t.sp = s.sp ∧ SameControl s t ∧ SameMem s t

/-- Only PC may differ. -/
def PcFrame (s t : State) : Prop := RegFrame [] s t

/-- One byte stored, the rest of memory as before. -/
def Stored8 (x : Word) (v : Byte) (s t : State) : Prop := t.read8 x = v ∧ SameMemBut [x] s t

/-- Two bytes stored, the low one at `x`, the rest of memory as before. -/
def Stored16 (x v : Word) (s t : State) : Prop :=
  (t.read8 x).toNat = v.toNat % 256 ∧ (t.read8 (x + 1)).toNat = v.toNat / 256 ∧ SameMemBut [x, x + 1] s t

/-- The 16-bit value at `x`, little-endian. -/
def wordAt (x : Word) (s : State) : Nat := (s.read8 x).toNat + 256 * (s.read8 (x + 1)).toNat

/-- The register of an `R8` operand; none for `(HL)`. -/
def regOf : R8 → Option Reg8
  | .b => some .b | .c => some .c | .d => some .d | .e => some .e | .h => some .h | .l => some .l
  | .hlInd => none
  | .a => some .a

/-- The value of an `R8` operand: a register, or the memory byte at HL. -/
def operand8 (r : R8) (s : State) : Byte :=
  match regOf r with
  | some q => s.reg8 q
  | none => s.read8 (s.reg16 .hl)

/-- An `R8` operand becomes `v`; nothing else but F and PC may differ. -/
def WroteR8 (r : R8) (v : Byte) (s t : State) : Prop :=
  t.sp = s.sp ∧ SameControl s t ∧
  match regOf r with
  | some q => t.reg8 q = v ∧ SameRegs [q, .f] s t ∧ SameMem s t
  | none => Stored8 (s.reg16 .hl) v s t ∧ SameRegs [.f] s t

/-- The accessor's name of an `R16` operand, and the 8-bit registers that hold it. -/
def nameOfR16 : R16 → Reg16
  | .bc => .bc | .de => .de | .hl => .hl | .sp => .sp
def halvesOfR16 : R16 → List Reg8
  | .bc => [.b, .c] | .de => [.d, .e] | .hl => [.h, .l] | .sp => []

/-- An `R16` operand becomes the word of value `w`; nothing else but PC may differ. -/
def WroteR16 (rr : R16) (w : Nat) (s t : State) : Prop :=
  (t.reg16 (nameOfR16 rr)).toNat = w ∧ SameRegs (halvesOfR16 rr) s t ∧ (rr ≠ .sp → t.sp = s.sp) ∧ SameControl s t ∧ SameMem s t

def nameOfR16stk : R16stk → Reg16
  | .bc => .bc | .de => .de | .hl => .hl | .af => .af
def halvesOfR16stk : R16stk → List Reg8
  | .bc => [.b, .c] | .de => [.d, .e] | .hl => [.h, .l] | .af => [.a, .f]

/-- The 8-bit registers that hold a 16-bit register of the accessors. -/
def halvesOfReg16 : Reg16 → List Reg8
  | .af => [.a, .f] | .bc => [.b, .c] | .de => [.d, .e] | .hl => [.h, .l] | .sp => [] | .pc => []

/-- The flag is set exactly when the condition holds. -/
def SetIff (v : Bool) (p : Prop) : Prop := v = true ↔ p

/-- `F.C` as a number. -/
def cyOf (s : State) : Nat := if s.flag .c = true then 1 else 0

/-- `e8` sign-extended, as the u16 of the same value. -/
def signedOffset (e8 : Byte) : Nat := if e8.toNat < 128 then e8.toNat else 0xFF00 + e8.toNat

/-- The instruction at `t`'s PC is the one the bytes of the memory of `m` decode to there. -/
def FetchesFrom (m t : State) : Prop := fetchInstr t = decodeOp (m.read8 t.pc) (m.read8 (t.pc + 1)) (m.read8 (t.pc + 2))

/-! ### The ALU table of spec/40_alu8.md section 5 -/

/-- A + b + cy into A, with its flags. -/
def AddPost (b : Byte) (cy : Nat) (len : Word) (s t : State) : Prop :=
  t.a.toNat = (s.a.toNat + b.toNat + cy) % 256 ∧
  SetIff t.flags.z ((s.a.toNat + b.toNat + cy) % 256 = 0) ∧ t.flags.n = false ∧
  SetIff t.flags.h ((s.a &&& 0xF).toNat + (b &&& 0xF).toNat + cy > 0xF) ∧
  SetIff t.flags.c (s.a.toNat + b.toNat + cy > 0xFF) ∧
  t.pc = s.pc + len ∧ RegFrame [.a, .f] s t

/-- The flags of A − b − cy, whose reduced value is `r`. -/
def SubFlags (b : Byte) (cy : Nat) (s t : State) : Prop :=
  SetIff t.flags.z ((s.a.toNat + 512 - b.toNat - cy) % 256 = 0) ∧ t.flags.n = true ∧
  SetIff t.flags.h ((s.a &&& 0xF).toNat < (b &&& 0xF).toNat + cy) ∧
  SetIff t.flags.c (s.a.toNat < b.toNat + cy)

/-- A − b − cy into A, with its flags. -/
def SubPost (b : Byte) (cy : Nat) (len : Word) (s t : State) : Prop :=
  t.a.toNat = (s.a.toNat + 512 - b.toNat - cy) % 256 ∧ SubFlags b cy s t ∧ t.pc = s.pc + len ∧ RegFrame [.a, .f] s t

/-- The flags of A − b; A unchanged. -/
def CpPost (b : Byte) (len : Word) (s t : State) : Prop :=
  SubFlags b 0 s t ∧ t.pc = s.pc + len ∧ RegFrame [.f] s t

/-- A bitwise result into A (bit by bit as `op` says), H forced to `h`. -/
def LogicPost (op : Bool → Bool → Bool) (h : Bool) (b : Byte) (len : Word) (s t : State) : Prop :=
  (∀ k < 8, t.a.getLsbD k = op (s.a.getLsbD k) (b.getLsbD k)) ∧
  SetIff t.flags.z (t.a.toNat = 0) ∧ t.flags.n = false ∧ t.flags.h = h ∧ t.flags.c = false ∧
  t.pc = s.pc + len ∧ RegFrame [.a, .f] s t

/-! ### Rotates and shifts, on numbers -/

/-- The result of an operation on `old` with the carry `c` (spec/42_rotates_shifts.md section 3). -/
def rotResult (o : RotOp) (old c : Nat) : Nat :=
  match o with
  | .rlc => (2 * old) % 256 + old / 128
  | .rrc => old / 2 + 128 * (old % 2)
  | .rl => (2 * old) % 256 + c
  | .rr => old / 2 + 128 * c
  | .sla => (2 * old) % 256
  | .sra => old / 2 + 128 * (old / 128)
  | .swap => 16 * (old % 16) + old / 16
  | .srl => old / 2

/-- When the carry comes out set. -/
def rotCarry (o : RotOp) (old : Nat) : Prop :=
  match o with
  | .rlc | .rl | .sla => old ≥ 128
  | .rrc | .rr | .sra | .srl => old % 2 = 1
  | .swap => False

/-- A CB rotate or shift of an `R8` operand: result, flags, PC and frame. -/
def CbRotPost (o : RotOp) (r : R8) (s t : State) : Prop :=
  WroteR8 r (BitVec.ofNat 8 (rotResult o (operand8 r s).toNat (cyOf s))) s t ∧
  SetIff t.flags.z (rotResult o (operand8 r s).toNat (cyOf s) = 0) ∧ t.flags.n = false ∧ t.flags.h = false ∧
  SetIff t.flags.c (rotCarry o (operand8 r s).toNat) ∧ t.pc = s.pc + 2

/-- The cycle count of an instruction with an `R8` operand. -/
def CyclesByOperand (i : Instr) (r : R8) (reg mem : Nat) (s : State) : Prop := cycles i s = if regOf r = none then mem else reg

/-- The cycle count and the data accesses of a CB rotate or shift: for `(HL)` one read, then one write. -/
def CbRotCost (i : Instr) (o : RotOp) (r : R8) (s : State) : Prop :=
  CyclesByOperand i r 2 4 s ∧
  dataAccesses i s = if r = .hlInd
    then [.read (s.reg16 .hl) (operand8 r s), .write (s.reg16 .hl) (BitVec.ofNat 8 (rotResult o (operand8 r s).toNat (cyOf s)))] else []

/-! ### Classes of instructions -/

/-- The CB-space operations that read and write their operand: all but BIT (spec/30_encoding.md R104). -/
def cbModifies (b : Fin 8) (r : R8) : List Instr :=
  [.rlcR8 r, .rrcR8 r, .rlR8 r, .rrR8 r, .slaR8 r, .sraR8 r, .swapR8 r, .srlR8 r, .resBR8 b r, .setBR8 b r]

/-- The undefined opcodes and their bytes (spec/30_encoding.md R108). -/
def undefinedRows : List (Instr × Byte) :=
  [(.undefinedD3, 0xD3), (.undefinedDB, 0xDB), (.undefinedDD, 0xDD), (.undefinedE3, 0xE3), (.undefinedE4, 0xE4), (.undefinedEB, 0xEB),
   (.undefinedEC, 0xEC), (.undefinedED, 0xED), (.undefinedF4, 0xF4), (.undefinedFC, 0xFC), (.undefinedFD, 0xFD)]

def undefinedBytes : List Byte := [0xD3, 0xDB, 0xDD, 0xE3, 0xE4, 0xEB, 0xEC, 0xED, 0xF4, 0xFC, 0xFD]

/-- The instructions that may leave PC elsewhere than after themselves (spec/48_step_driver.md R289). -/
def transfers : Instr → Bool
  | .jrE8 _ | .jrCondE8 _ _ | .jpImm16 _ | .jpCondImm16 _ _ | .jpHl | .callImm16 _ | .callCondImm16 _ _ | .ret | .retCond _ | .reti
  | .rstTgt3 _ => true
  | _ => false

/-- The instructions that write no flag at all (spec/10_state.md R29). -/
def writesNoFlag : Instr → Bool
  | .ldR8R8 _ _ | .ldR8Imm8 _ _ | .ldR16Imm16 _ _ | .ldR16memA _ | .ldAR16mem _ | .ldImm16Sp _ | .ldSpHl | .ldImm16A _ | .ldAImm16 _
  | .ldhCA | .ldhImm8A _ | .ldhAC | .ldhAImm8 _ => true
  | .incR16 _ | .decR16 _ | .pushR16stk _ => true
  | .popR16stk rr => rr != .af
  | .jrE8 _ | .jrCondE8 _ _ | .jpImm16 _ | .jpCondImm16 _ _ | .jpHl | .callImm16 _ | .callCondImm16 _ _ | .ret | .retCond _ | .reti
  | .rstTgt3 _ => true
  | .resBR8 _ _ | .setBR8 _ _ | .nop | .di | .ei | .halt | .stop _ => true
  | _ => false

/-- The state with N and H replaced. -/
def withNH (n h : Bool) (s : State) : State := (s.setFlag .n n).setFlag .h h

/-- `bcd(n)` (spec/00_scope.md R12). -/
def bcd (n : Nat) : Byte := BitVec.ofNat 8 (16 * (n / 10) + n % 10)

end Sys2Proof.Claims

section
open Sys2Proof Sys2Proof.Machine Sys2Proof.Claims

/-! ### Encoding -/

/-- Decode of encode, for every well-formed instruction with every operand, whatever follows. Rests on the bit patterns of blocks
0 and 3 that spec/93_implementation_defined.md G1 supplies (log entry 8). -/
def Obligations.DecodeEncodeRoundTrip : Prop :=
  ∀ i : Instr, i.wellFormed = true → Decodes (encode i) i

/-- What the decoder reads is well-formed and its words are the bytes read: no byte is dropped or misread into another form. -/
def Obligations.EncodeDecodeRoundTrip : Prop :=
  ∀ (bytes rest : List Byte) (i : Instr), decode bytes = .ok (i, rest) → i.wellFormed = true ∧ encode i ++ rest = bytes

/-- R108: the eleven bytes decode to the eleven undefined opcodes, and no other first byte does. -/
def Obligations.UndefinedOpcodesAreTheEleven : Prop :=
  (∀ row ∈ undefinedRows, Decodes [row.2] row.1) ∧
  ∀ op b1 b2 : Byte, (decodeOp op b1 b2 ∈ undefinedRows.map Prod.fst ↔ op ∈ undefinedBytes)

/-- A few words of each family, written out from the spec's patterns, decode to the instruction they stand for. -/
def Obligations.SpecWordsDecode : Prop :=
  Decodes [0b00000000] .nop ∧ Decodes [0b00100001, 0x34, 0x12] (.ldR16Imm16 .hl 0x1234) ∧ Decodes [0b00110010] (.ldR16memA .hlDec) ∧
  Decodes [0b00111001] (.addHlR16 .sp) ∧ Decodes [0b00110100] (.incR8 .hlInd) ∧ Decodes [0b00111000, 0x10] (.jrCondE8 .c 0x10) ∧
  Decodes [0b01110110] .halt ∧ Decodes [0b01110000] (.ldR8R8 .hlInd .b) ∧ Decodes [0b10011111] (.sbcAR8 .a) ∧
  Decodes [0b11111110, 0x02] (.cpAImm8 2) ∧ Decodes [0b11101111] (.rstTgt3 5) ∧ Decodes [0b11110001] (.popR16stk .af) ∧
  Decodes [0b11001101, 0x34, 0x12] (.callImm16 0x1234) ∧ Decodes [0b11001011, 0b01111111] (.bitBR8 7 .a) ∧
  Decodes [0b11001011, 0b11001011] (.setBR8 1 .e) ∧ Decodes [0b11001011, 0b00110110] (.swapR8 .hlInd)

/-- R91: the first byte alone gives the length, which is that of the instruction decoded; bytes beyond it are not looked at. -/
def Obligations.LengthByFirstByteAlone : Prop :=
  ∀ op b1 b2 : Byte,
    (decodeOp op b1 b2).length = opLength op ∧ 1 ≤ opLength op ∧ opLength op ≤ 3 ∧
    (opLength op = 1 → ∀ c1 c2, decodeOp op c1 c2 = decodeOp op b1 b2) ∧
    (opLength op = 2 → ∀ c2, decodeOp op b1 c2 = decodeOp op b1 b2)

/-- R111: the prefix with its second byte is one instruction of length 2, the CB-space instruction of that byte; it completes. -/
def Obligations.PrefixRunsCbInstruction : Prop :=
  ∀ (cb : Byte) (s : State),
    Decodes [0xCB, cb] (decodeCb cb) ∧ exec (.prefixCb cb) s = exec (decodeCb cb) s ∧ cycles (.prefixCb cb) s = cycles (decodeCb cb) s ∧
    Completes (.prefixCb cb) s fun t => t.pc = s.pc + 2

/-! ### The step driver -/

/-- A step runs the decoded instruction: when the core is neither halted nor stopped and the bytes at PC decode to `i`, the step is
`exec i` followed by the tick of R284 (which rests on the spec's own resolution D9, log entry 12). -/
def Obligations.StepRunsDecodedInstruction : Prop :=
  ∀ (s : State) (i : Instr) (rest : List Byte),
    s.halted = false → s.stopped = false →
    decode [s.read8 s.pc, s.read8 (s.pc + 1), s.read8 (s.pc + 2)] = .ok (i, rest) →
    step s =
      match exec i s with
      | .next t => .next (if s.imePending ≠ 0 ∧ t.imePending ≠ 0 then { t with ime := true, imePending := 0 } else t)
      | .fault r => .fault r
      | .refused r => .refused r

/-- R281, R319, R320: while halted or stopped no number of steps changes anything; each returns `IDLE_CYCLES` = 1 and makes no bus
access (both the spec's decision D5). -/
def Obligations.IdleStepsChangeNothing : Prop :=
  ∀ (s : State) (n : Nat), (s.halted = true ∨ s.stopped = true) →
    Sys2Proof.core.run n s = .next s ∧ stepCycles s = 1 ∧ stepAccesses s = []

/-- The table of R286: what a step leaves in IME and ime_pending, by the instruction executed. -/
def Obligations.ImeStateMachine : Prop :=
  ∀ s t : State, s.halted = false → s.stopped = false → step s = .next t →
    (fetchInstr s = .ei → s.imePending = 0 → t.ime = s.ime ∧ t.imePending = 1) ∧
    (fetchInstr s = .ei → s.imePending ≠ 0 → t.ime = true ∧ t.imePending = 0) ∧
    (fetchInstr s = .di → t.ime = false ∧ t.imePending = 0) ∧
    (fetchInstr s = .reti → t.ime = true ∧ t.imePending = 0) ∧
    (fetchInstr s ≠ .ei → fetchInstr s ≠ .di → fetchInstr s ≠ .reti → s.imePending = 0 → t.ime = s.ime ∧ t.imePending = 0) ∧
    (fetchInstr s ≠ .ei → fetchInstr s ≠ .di → fetchInstr s ≠ .reti → s.imePending ≠ 0 → t.ime = true ∧ t.imePending = 0)

/-- The EI delay (the source's test): EI does not enable; the instruction after it does, unless it is DI, which cancels. -/
def Obligations.EiTakesEffectAfterTheNextInstruction : Prop :=
  ∀ s t u : State, s.halted = false → s.stopped = false → s.imePending = 0 → fetchInstr s = .ei →
    step s = .next t → step t = .next u →
    t.ime = s.ime ∧ (fetchInstr t = .di → u.ime = false ∧ u.imePending = 0) ∧ (fetchInstr t ≠ .di → u.ime = true ∧ u.imePending = 0)

/-- R301: nothing but an undefined opcode keeps a step from a next state. -/
def Obligations.NothingElseRaises : Prop :=
  ∀ s : State, s.read8 s.pc ∉ undefinedBytes → SafeStep s

/-- R270, R300: each undefined opcode reports itself with the address it was fetched from; the report is a fault, as the spec
directs a model (decision D3, log entry 5). -/
def Obligations.UndefinedOpcodesFault : Prop :=
  ∀ s : State,
    (∀ row ∈ undefinedRows, exec row.1 s = .fault (.undefinedOpcode row.2 s.pc)) ∧
    (s.halted = false → s.stopped = false → s.read8 s.pc ∈ undefinedBytes → step s = .fault (.undefinedOpcode (s.read8 s.pc) s.pc))

/-- R270, R310 and conflict C6: a caller that goes on after the report finds PC + 1 and nothing else changed but what the tick does;
where there is no report the reporting step is the step. -/
def Obligations.ReportingStepGoesOn : Prop :=
  ∀ s : State,
    (s.halted = false → s.stopped = false → s.read8 s.pc ∈ undefinedBytes →
      ∃ t, stepReporting s = .next (t, some (s.read8 s.pc, s.pc)) ∧ t.pc = s.pc + 1 ∧ SameRegs [] s t ∧ t.sp = s.sp ∧ SameMem s t ∧
        t.halted = s.halted ∧ t.stopped = s.stopped ∧ (s.imePending = 0 → t.ime = s.ime ∧ t.imePending = 0) ∧
        (s.imePending ≠ 0 → t.ime = true ∧ t.imePending = 0)) ∧
    (∀ t, step s = .next t → stepReporting s = .next (t, none))

/-- R289: an instruction that does not transfer control leaves PC its own length further, modulo 2^16. -/
def Obligations.PcAdvancesByLength : Prop :=
  ∀ (i : Instr) (s t : State), transfers i = false → exec i s = .next t → t.pc.toNat = (s.pc.toNat + i.length) % 2 ^ 16

/-- Every step keeps the invariant: memory canonical, ime_pending 0 or 1, never halted and stopped at once, and no enable pending
while idle. -/
def Obligations.StepKeepsInvariant : Prop :=
  ∀ s t : State, s.Inv → step s = .next t → t.Inv

/-- The invariant holds after reset, whatever the open parameters. -/
def Obligations.InvariantAtReset : Prop :=
  State.reset.Inv ∧ ∀ init : Config.Init, (State.resetWith init).Inv

/-- Whatever the environment does between steps (interrupt requests, resets, register and flag accessors, changes of memory), every
reachable state satisfies the invariant, and F read as a byte has a zero low nibble. -/
def Obligations.ReachableStatesAreLegal : Prop :=
  ∀ s : State, Reachable s → s.Inv ∧ s.reg8 .f &&& 0x0F = 0

/-! ### Reset and the registers -/

/-- R340: the post-boot state, from construction and from any state; the first fetch is at 0x0100. -/
def Obligations.ResetGivesPostBootState : Prop :=
  (∀ init : Config.Init, let t := State.resetWith init
    t.pc = 0x0100 ∧ t.sp = 0xFFFE ∧ t.ime = false ∧ t.halted = false ∧ t.imePending = 0 ∧
    fetchInstr t = decodeOp (t.read8 0x0100) (t.read8 0x0101) (t.read8 0x0102)) ∧
  ∀ (init : Config.Init) (s : State), ∃ t, control (.reset init) s = .next t ∧
    t.pc = 0x0100 ∧ t.sp = 0xFFFE ∧ t.ime = false ∧ t.halted = false ∧ t.imePending = 0 ∧
    fetchInstr t = decodeOp (t.read8 0x0100) (t.read8 0x0101) (t.read8 0x0102)

/-- R341 to R343, R345 (decision D8, log entry 15): reset clears `stopped`, leaves memory alone (so that the next fetch decodes the
bytes that stood at 0x0100 before it) and gives the open registers their parameters, F
masked; it is a way out of the halted and the stopped state. -/
def Obligations.ResetParametersAndMemory : Prop :=
  ∀ (init : Config.Init) (s : State), ∃ t, control (.reset init) s = .next t ∧
    t.idle = false ∧ SameMem s t ∧ t.reg8 .a = init.a ∧ t.reg8 .f = init.f &&& 0xF0 ∧
    t.reg16 .bc = init.bc ∧ t.reg16 .de = init.de ∧ t.reg16 .hl = init.hl ∧
    fetchInstr t = decodeOp (s.read8 0x0100) (s.read8 0x0101) (s.read8 0x0102)

/-- R21: the 8-bit and 16-bit names are two views of one storage. -/
def Obligations.RegisterViewsAlias : Prop :=
  (∀ (x y : Byte) (s : State),
    (((s.setReg8 .b x).setReg8 .c y).reg16 .bc).toNat = x.toNat * 256 + y.toNat ∧
    (((s.setReg8 .d x).setReg8 .e y).reg16 .de).toNat = x.toNat * 256 + y.toNat ∧
    (((s.setReg8 .h x).setReg8 .l y).reg16 .hl).toNat = x.toNat * 256 + y.toNat ∧
    (((s.setReg8 .a x).setReg8 .f y).reg16 .af).toNat = x.toNat * 256 + (y &&& 0xF0).toNat) ∧
  ∀ (w : Word) (s : State),
    ((s.setReg16 .bc w).reg8 .b).toNat = w.toNat / 256 ∧ ((s.setReg16 .bc w).reg8 .c).toNat = w.toNat % 256 ∧
    ((s.setReg16 .de w).reg8 .d).toNat = w.toNat / 256 ∧ ((s.setReg16 .de w).reg8 .e).toNat = w.toNat % 256 ∧
    ((s.setReg16 .hl w).reg8 .h).toNat = w.toNat / 256 ∧ ((s.setReg16 .hl w).reg8 .l).toNat = w.toNat % 256 ∧
    ((s.setReg16 .af w).reg8 .a).toNat = w.toNat / 256 ∧
    ((s.setReg16 .af w).reg8 .f).toNat = ((BitVec.ofNat 8 (w.toNat % 256) : Byte) &&& 0xF0).toNat

/-- R25, R26: F holds Z, N, H, C in bits 7 to 4; its low nibble reads zero; every write of F or AF masks it. -/
def Obligations.FlagRegisterLayoutAndMask : Prop :=
  (∀ s : State, s.reg8 .f &&& 0x0F = 0 ∧ (s.reg8 .f).getLsbD 7 = s.flag .z ∧ (s.reg8 .f).getLsbD 6 = s.flag .n ∧
    (s.reg8 .f).getLsbD 5 = s.flag .h ∧ (s.reg8 .f).getLsbD 4 = s.flag .c) ∧
  (∀ (s : State) (v : Byte), (s.setReg8 .f v).reg8 .f = v &&& 0xF0) ∧
  (∀ (s : State) (w : Word), (s.setReg16 .af w).reg8 .a = hiByte w ∧ (s.setReg16 .af w).reg8 .f = loByte w &&& 0xF0) ∧
  (∀ s : State, Completes (.popR16stk .af) s fun t => t.reg8 .a = s.read8 (s.sp + 1) ∧ t.reg8 .f = s.read8 s.sp &&& 0xF0) ∧
  ∀ init : Config.Init, (State.resetWith init).reg8 .f = init.f &&& 0xF0

/-- R27 and R44 (decision D16, log entry 14): an accessor, as an operation of the control interface, always completes, reads back
what it wrote (F masked) and changes nothing else; so do those of the control fields, but that ime_pending takes 0 and 1 only
(spec/93_implementation_defined.md U12). A change of memory by the environment (R9) changes one byte. -/
def Obligations.AccessorsChangeOneThing : Prop :=
  (∀ (r : Reg8) (v : Byte) (s : State), control (.setReg8 r v) s = .next (s.setReg8 r v)) ∧
  (∀ (r : Reg16) (w : Word) (s : State), control (.setReg16 r w) s = .next (s.setReg16 r w)) ∧
  (∀ (g : Flag) (v : Bool) (s : State), control (.setFlag g v) s = .next (s.setFlag g v)) ∧
  (∀ (v : Bool) (s : State),
    control (.setIme v) s = .next { s with ime := v } ∧ control (.setHalted v) s = .next { s with halted := v } ∧
    control (.setStopped v) s = .next { s with stopped := v }) ∧
  (∀ (n : Nat) (s : State),
    (n ≤ 1 → control (.setImePending n) s = .next { s with imePending := n }) ∧
    (1 < n → control (.setImePending n) s = .refused (.noSuchImePending n))) ∧
  (∀ (x : Word) (v : Byte) (s : State), ∃ t, control (.poke x v) s = .next t ∧
    Stored8 x v s t ∧ SameRegs [] s t ∧ t.sp = s.sp ∧ t.pc = s.pc ∧ SameControl s t) ∧
  (∀ (r : Reg8) (v : Byte) (s : State), (s.setReg8 r v).reg8 r = (if r = .f then v &&& 0xF0 else v) ∧
    RegFrame [r] s (s.setReg8 r v) ∧ (s.setReg8 r v).pc = s.pc) ∧
  (∀ (g : Flag) (v : Bool) (s : State), (s.setFlag g v).flag g = v ∧ (∀ g', g' ≠ g → (s.setFlag g v).flag g' = s.flag g') ∧
    RegFrame [.f] s (s.setFlag g v) ∧ (s.setFlag g v).pc = s.pc) ∧
  ∀ (r : Reg16) (w : Word) (s : State), (s.setReg16 r w).reg16 r = (if r = .af then w &&& 0xFFF0 else w) ∧
    SameRegs (halvesOfReg16 r) s (s.setReg16 r w) ∧ (r ≠ .sp → (s.setReg16 r w).sp = s.sp) ∧ (r ≠ .pc → (s.setReg16 r w).pc = s.pc) ∧
    SameControl s (s.setReg16 r w) ∧ SameMem s (s.setReg16 r w)

/-! ### Memory and the bus -/

/-- R66, R67: the stack primitives, SP modulo 2^16. -/
def Obligations.StackPrimitives : Prop :=
  (∀ (v : Word) (s : State), (s.push16 v).sp = s.sp - 2 ∧ Stored16 (s.sp - 2) v s (s.push16 v) ∧ SameRegs [] s (s.push16 v) ∧
    SameControl s (s.push16 v) ∧ (s.push16 v).pc = s.pc) ∧
  ∀ s : State, s.pop16.1.toNat = wordAt s.sp s ∧ s.pop16.2.sp = s.sp + 2 ∧ SameRegs [] s s.pop16.2 ∧ SameMem s s.pop16.2 ∧
    SameControl s s.pop16.2 ∧ s.pop16.2.pc = s.pc

/-- R73: what an instruction does to memory is exactly the writes listed for it, so every byte it does not list is unchanged. -/
def Obligations.MemoryEffectIsTheListedWrites : Prop :=
  ∀ (i : Instr) (s t : State), exec i s = .next t →
    SameMem (performWrites (dataAccesses i s) s) t ∧ SameMemBut (writtenAddrs (dataAccesses i s)) s t

/-- R70, R71: a step reads its instruction bytes first, as many as its length, ascending; no access reads after one that writes; a
read is answered from the memory the step began with (the order is the spec's decision D1). -/
def Obligations.AccessOrderWithinStep : Prop :=
  ∀ s : State, s.halted = false → s.stopped = false →
    ∃ reads writes : List (Word × Byte),
      stepAccesses s = reads.map (fun p => BusAccess.read p.1 p.2) ++ writes.map (fun p => BusAccess.write p.1 p.2) ∧
      (∀ p ∈ reads, s.read8 p.1 = p.2) ∧
      (reads.take (opLength (s.read8 s.pc))).map Prod.fst =
        (List.range (opLength (s.read8 s.pc))).map fun k => s.pc + BitVec.ofNat 16 k

/-- R78 (which the spec derives from R70 and R76, the latter resting on decision D11, log entry 15): whatever instruction stores,
each byte it writes is what a later read gives, so the next instruction is decoded from memory with those writes performed, at each
of its bytes; over `exec`, and over a whole step with its tick. -/
def Obligations.StoreIsSeenByNextFetch : Prop :=
  (∀ (i : Instr) (s t : State), exec i s = .next t →
    (∀ (x : Word) (v : Byte), BusAccess.write x v ∈ dataAccesses i s → t.read8 x = v) ∧ FetchesFrom (performWrites (dataAccesses i s) s) t) ∧
  (∀ s t : State, s.halted = false → s.stopped = false → step s = .next t →
    (∀ (x : Word) (v : Byte), BusAccess.write x v ∈ stepAccesses s → t.read8 x = v) ∧ FetchesFrom (performWrites (stepAccesses s) s) t) ∧
  ∀ s t : State, exec (.ldImm16A (s.pc + 3)) s = .next t →
    fetchInstr t = decodeOp s.a (s.read8 (s.pc + 4)) (s.read8 (s.pc + 5))

/-! ### 8-bit ALU -/

/-- R130 to R133 -/
def Obligations.AddAdcSubSbcRegister : Prop :=
  ∀ (r : R8) (s : State),
    (Decodes [0b10000#5 ++ r.code] (.addAR8 r) ∧ Completes (.addAR8 r) s (AddPost (operand8 r s) 0 1 s)) ∧
    (Decodes [0b10001#5 ++ r.code] (.adcAR8 r) ∧ Completes (.adcAR8 r) s (AddPost (operand8 r s) (cyOf s) 1 s)) ∧
    (Decodes [0b10010#5 ++ r.code] (.subAR8 r) ∧ Completes (.subAR8 r) s (SubPost (operand8 r s) 0 1 s)) ∧
    (Decodes [0b10011#5 ++ r.code] (.sbcAR8 r) ∧ Completes (.sbcAR8 r) s (SubPost (operand8 r s) (cyOf s) 1 s))

/-- R134, R135, R136 -/
def Obligations.AndXorOrRegister : Prop :=
  ∀ (r : R8) (s : State),
    (Decodes [0b10100#5 ++ r.code] (.andAR8 r) ∧ Completes (.andAR8 r) s (LogicPost (· && ·) true (operand8 r s) 1 s)) ∧
    (Decodes [0b10101#5 ++ r.code] (.xorAR8 r) ∧ Completes (.xorAR8 r) s (LogicPost (· ^^ ·) false (operand8 r s) 1 s)) ∧
    (Decodes [0b10110#5 ++ r.code] (.orAR8 r) ∧ Completes (.orAR8 r) s (LogicPost (· || ·) false (operand8 r s) 1 s))

/-- R137: A unchanged; with `(HL)` the byte is read once and nothing is written. -/
def Obligations.CpRegister : Prop :=
  ∀ (r : R8) (s : State),
    Decodes [0b10111#5 ++ r.code] (.cpAR8 r) ∧ Completes (.cpAR8 r) s (CpPost (operand8 r s) 1 s) ∧
    (r = .hlInd → dataAccesses (.cpAR8 r) s = [.read s.hl (s.read8 s.hl)])

/-- R138 to R141: the register forms' operations with `b = imm8`. -/
def Obligations.AddAdcSubSbcImmediate : Prop :=
  ∀ (n : Byte) (s : State),
    (Decodes [0b11000110, n] (.addAImm8 n) ∧ Completes (.addAImm8 n) s (AddPost n 0 2 s)) ∧
    (Decodes [0b11001110, n] (.adcAImm8 n) ∧ Completes (.adcAImm8 n) s (AddPost n (cyOf s) 2 s)) ∧
    (Decodes [0b11010110, n] (.subAImm8 n) ∧ Completes (.subAImm8 n) s (SubPost n 0 2 s)) ∧
    (Decodes [0b11011110, n] (.sbcAImm8 n) ∧ Completes (.sbcAImm8 n) s (SubPost n (cyOf s) 2 s))

/-- R142 to R145 -/
def Obligations.AndXorOrCpImmediate : Prop :=
  ∀ (n : Byte) (s : State),
    (Decodes [0b11100110, n] (.andAImm8 n) ∧ Completes (.andAImm8 n) s (LogicPost (· && ·) true n 2 s)) ∧
    (Decodes [0b11101110, n] (.xorAImm8 n) ∧ Completes (.xorAImm8 n) s (LogicPost (· ^^ ·) false n 2 s)) ∧
    (Decodes [0b11110110, n] (.orAImm8 n) ∧ Completes (.orAImm8 n) s (LogicPost (· || ·) false n 2 s)) ∧
    (Decodes [0b11111110, n] (.cpAImm8 n) ∧ Completes (.cpAImm8 n) s (CpPost n 2 s))

/-- R146, R147: the operand, register or memory byte, is read once, then written once (R97); C is unchanged. -/
def Obligations.IncDecByte : Prop :=
  ∀ (r : R8) (s : State),
    Completes (.incR8 r) s (fun t =>
      WroteR8 r (BitVec.ofNat 8 ((operand8 r s).toNat + 1)) s t ∧ SetIff t.flags.z ((operand8 r s).toNat = 255) ∧
      t.flags.n = false ∧ SetIff t.flags.h ((operand8 r s) &&& 0xF = 0xF) ∧ t.flags.c = s.flags.c ∧ t.pc = s.pc + 1) ∧
    Completes (.decR8 r) s (fun t =>
      WroteR8 r (BitVec.ofNat 8 ((operand8 r s).toNat + 255)) s t ∧ SetIff t.flags.z ((operand8 r s).toNat = 1) ∧
      t.flags.n = true ∧ SetIff t.flags.h ((operand8 r s) &&& 0xF = 0) ∧ t.flags.c = s.flags.c ∧ t.pc = s.pc + 1) ∧
    CyclesByOperand (.incR8 r) r 1 3 s ∧ CyclesByOperand (.decR8 r) r 1 3 s ∧
    (r = .hlInd → ∀ t, exec (.incR8 r) s = .next t → dataAccesses (.incR8 r) s = [.read s.hl (s.read8 s.hl), .write s.hl (t.read8 s.hl)]) ∧
    (r = .hlInd → ∀ t, exec (.decR8 r) s = .next t → dataAccesses (.decR8 r) s = [.read s.hl (s.read8 s.hl), .write s.hl (t.read8 s.hl)])

/-! ### 16-bit arithmetic -/

/-- R160, R161, R162: INC and DEC write no flag; ADD HL reads both operands before HL is written and leaves Z. -/
def Obligations.WordArithmetic : Prop :=
  ∀ (rr : R16) (s : State),
    Completes (.incR16 rr) s (fun t => WroteR16 rr (((s.reg16 (nameOfR16 rr)).toNat + 1) % 65536) s t ∧ t.flags = s.flags ∧ t.pc = s.pc + 1) ∧
    Completes (.decR16 rr) s (fun t => WroteR16 rr (((s.reg16 (nameOfR16 rr)).toNat + 65535) % 65536) s t ∧ t.flags = s.flags ∧ t.pc = s.pc + 1) ∧
    Completes (.addHlR16 rr) s (fun t =>
      let hl := s.reg16 .hl
      let v := s.reg16 (nameOfR16 rr)
      (t.reg16 .hl).toNat = (hl.toNat + v.toNat) % 65536 ∧ t.flags.z = s.flags.z ∧ t.flags.n = false ∧
      SetIff t.flags.h ((hl &&& 0x0FFF).toNat + (v &&& 0x0FFF).toNat > 0x0FFF) ∧ SetIff t.flags.c (hl.toNat + v.toNat > 0xFFFF) ∧
      t.pc = s.pc + 1 ∧ RegFrame [.h, .l, .f] s t)

/-- R163, R164: the sum takes `e8` signed, the flags take it unsigned on SP's low byte; `LD HL, SP+e8` leaves SP. -/
def Obligations.StackPointerOffset : Prop :=
  ∀ (e8 : Byte) (s : State),
    let flagsOk := fun t : State => t.flags.z = false ∧ t.flags.n = false ∧
      SetIff t.flags.h ((s.sp &&& 0xF).toNat + (e8 &&& 0xF).toNat > 0xF) ∧ SetIff t.flags.c ((s.sp &&& 0xFF).toNat + e8.toNat > 0xFF)
    Completes (.addSpE8 e8) s (fun t =>
      t.sp.toNat = (s.sp.toNat + signedOffset e8) % 65536 ∧ flagsOk t ∧ t.pc = s.pc + 2 ∧ SameRegs [.f] s t ∧ SameControl s t ∧ SameMem s t) ∧
    Completes (.ldHlSpE8 e8) s (fun t =>
      (t.reg16 .hl).toNat = (s.sp.toNat + signedOffset e8) % 65536 ∧ flagsOk t ∧ t.pc = s.pc + 2 ∧ RegFrame [.h, .l, .f] s t)

/-! ### Rotates, shifts and bits -/

/-- R170 to R173: Z is 0 whatever the result (the entering bits are supplied by spec/93_implementation_defined.md G2, log entry 8). -/
def Obligations.AccumulatorRotates : Prop :=
  ∀ s : State,
    let post := fun (o : RotOp) (t : State) =>
      t.a.toNat = rotResult o s.a.toNat (cyOf s) ∧ t.flags.z = false ∧ t.flags.n = false ∧ t.flags.h = false ∧
      SetIff t.flags.c (rotCarry o s.a.toNat) ∧ t.pc = s.pc + 1 ∧ RegFrame [.a, .f] s t
    Completes .rlca s (post .rlc) ∧ Completes .rrca s (post .rrc) ∧ Completes .rla s (post .rl) ∧ Completes .rra s (post .rr)

/-- R174 to R179 (the entering bits are supplied by spec/93_implementation_defined.md G2, log entry 8). -/
def Obligations.CbRotatesAndArithmeticShifts : Prop :=
  ∀ (r : R8) (s : State),
    (Decodes [0xCB, 0b00000#5 ++ r.code] (.rlcR8 r) ∧ Completes (.rlcR8 r) s (CbRotPost .rlc r s) ∧ CbRotCost (.rlcR8 r) .rlc r s) ∧
    (Decodes [0xCB, 0b00001#5 ++ r.code] (.rrcR8 r) ∧ Completes (.rrcR8 r) s (CbRotPost .rrc r s) ∧ CbRotCost (.rrcR8 r) .rrc r s) ∧
    (Decodes [0xCB, 0b00010#5 ++ r.code] (.rlR8 r) ∧ Completes (.rlR8 r) s (CbRotPost .rl r s) ∧ CbRotCost (.rlR8 r) .rl r s) ∧
    (Decodes [0xCB, 0b00011#5 ++ r.code] (.rrR8 r) ∧ Completes (.rrR8 r) s (CbRotPost .rr r s) ∧ CbRotCost (.rrR8 r) .rr r s) ∧
    (Decodes [0xCB, 0b00100#5 ++ r.code] (.slaR8 r) ∧ Completes (.slaR8 r) s (CbRotPost .sla r s) ∧ CbRotCost (.slaR8 r) .sla r s) ∧
    (Decodes [0xCB, 0b00101#5 ++ r.code] (.sraR8 r) ∧ Completes (.sraR8 r) s (CbRotPost .sra r s) ∧ CbRotCost (.sraR8 r) .sra r s)

/-- R180, R181, with the operand, accesses, length, flags and cycles of R182. -/
def Obligations.CbSwapAndShiftRightLogical : Prop :=
  ∀ (r : R8) (s : State),
    (Decodes [0xCB, 0b00110#5 ++ r.code] (.swapR8 r) ∧ Completes (.swapR8 r) s (CbRotPost .swap r s) ∧ CbRotCost (.swapR8 r) .swap r s) ∧
    (Decodes [0xCB, 0b00111#5 ++ r.code] (.srlR8 r) ∧ Completes (.srlR8 r) s (CbRotPost .srl r s) ∧ CbRotCost (.srlR8 r) .srl r s)

/-- R190: Z is the complement of the tested bit; nothing is written; `(HL)` is read once. -/
def Obligations.BitTest : Prop :=
  ∀ (b : Fin 8) (r : R8) (s : State),
    Decodes [0xCB, 0b01#2 ++ indexCode b ++ r.code] (.bitBR8 b r) ∧
    Completes (.bitBR8 b r) s (fun t =>
      SetIff t.flags.z ((operand8 r s).getLsbD b = false) ∧ t.flags.n = false ∧ t.flags.h = true ∧ t.flags.c = s.flags.c ∧
      t.pc = s.pc + 2 ∧ RegFrame [.f] s t) ∧
    CyclesByOperand (.bitBR8 b r) r 2 3 s ∧
    dataAccesses (.bitBR8 b r) s = if r = .hlInd then [.read s.hl (s.read8 s.hl)] else []

/-- R191, R192: one bit cleared or set, no flag affected; `(HL)` is read once and written once, whatever the bit was. -/
def Obligations.BitResetAndSet : Prop :=
  ∀ (b : Fin 8) (r : R8) (s : State),
    (Decodes [0xCB, 0b10#2 ++ indexCode b ++ r.code] (.resBR8 b r) ∧
     Completes (.resBR8 b r) s (fun t => ∃ v : Byte, (∀ k < 8, v.getLsbD k = if k = b.val then false else (operand8 r s).getLsbD k) ∧
       WroteR8 r v s t ∧ t.flags = s.flags ∧ t.pc = s.pc + 2 ∧
       (r = .hlInd → dataAccesses (.resBR8 b r) s = [.read s.hl (s.read8 s.hl), .write s.hl v])) ∧
     CyclesByOperand (.resBR8 b r) r 2 4 s) ∧
    (Decodes [0xCB, 0b11#2 ++ indexCode b ++ r.code] (.setBR8 b r) ∧
     Completes (.setBR8 b r) s (fun t => ∃ v : Byte, (∀ k < 8, v.getLsbD k = if k = b.val then true else (operand8 r s).getLsbD k) ∧
       WroteR8 r v s t ∧ t.flags = s.flags ∧ t.pc = s.pc + 2 ∧
       (r = .hlInd → dataAccesses (.setBR8 b r) s = [.read s.hl (s.read8 s.hl), .write s.hl v])) ∧
     CyclesByOperand (.setBR8 b r) r 2 4 s)

/-! ### Loads and stores -/

/-- R200, R201: the source is read, at the old HL, before the destination is written; no flag is written. -/
def Obligations.LoadByteOperands : Prop :=
  ∀ (dst src : R8) (n : Byte) (s : State),
    Completes (.ldR8R8 dst src) s (fun t => WroteR8 dst (operand8 src s) s t ∧ t.flags = s.flags ∧ t.pc = s.pc + 1) ∧
    Completes (.ldR8Imm8 dst n) s (fun t => WroteR8 dst n s t ∧ t.flags = s.flags ∧ t.pc = s.pc + 2) ∧
    cycles (.ldR8R8 dst src) s = (if regOf dst = none ∨ regOf src = none then 2 else 1) ∧ CyclesByOperand (.ldR8Imm8 dst n) dst 2 3 s

/-- R202, R206 -/
def Obligations.LoadWords : Prop :=
  (∀ (rr : R16) (n : Word) (s : State),
    Completes (.ldR16Imm16 rr n) s (fun t => WroteR16 rr n.toNat s t ∧ t.flags = s.flags ∧ t.pc = s.pc + 3)) ∧
  ∀ s : State, Completes .ldSpHl s (fun t => t.sp = s.reg16 .hl ∧ SameRegs [] s t ∧ SameControl s t ∧ SameMem s t ∧ t.pc = s.pc + 1)

/-- R203, R204: the access uses HL before it is changed; BC and DE are never modified; HL moves modulo 2^16. -/
def Obligations.LoadThroughPair : Prop :=
  ∀ (rr : R16mem) (s : State),
    let addr : Word := match rr with | .bc => s.reg16 .bc | .de => s.reg16 .de | .hlInc | .hlDec => s.reg16 .hl
    let hlAfter : Nat := match rr with
      | .bc | .de => (s.reg16 .hl).toNat
      | .hlInc => ((s.reg16 .hl).toNat + 1) % 65536
      | .hlDec => ((s.reg16 .hl).toNat + 65535) % 65536
    Completes (.ldR16memA rr) s (fun t =>
      s.r16memAddr rr = addr ∧ Stored8 (s.r16memAddr rr) s.a s t ∧ (t.reg16 .hl).toNat = hlAfter ∧ SameRegs [.h, .l] s t ∧
      t.sp = s.sp ∧ SameControl s t ∧ t.pc = s.pc + 1) ∧
    Completes (.ldAR16mem rr) s (fun t =>
      t.a = s.read8 addr ∧ (t.reg16 .hl).toNat = hlAfter ∧ RegFrame [.a, .h, .l] s t ∧ t.pc = s.pc + 1)

/-- R205, R207, R208: absolute addresses; SP is stored little-endian, the second byte's address modulo 2^16. -/
def Obligations.LoadAbsolute : Prop :=
  ∀ (n : Word) (s : State),
    Completes (.ldImm16Sp n) s (fun t => Stored16 n s.sp s t ∧ SameRegs [] s t ∧ t.sp = s.sp ∧ SameControl s t ∧ t.pc = s.pc + 3) ∧
    Completes (.ldImm16A n) s (fun t => Stored8 n s.a s t ∧ SameRegs [] s t ∧ t.sp = s.sp ∧ SameControl s t ∧ t.pc = s.pc + 3) ∧
    Completes (.ldAImm16 n) s (fun t => t.a = s.read8 n ∧ RegFrame [.a] s t ∧ t.pc = s.pc + 3)

/-- R209 to R212: the page 0xFF00..0xFFFF, by the register C and by an immediate. -/
def Obligations.LoadHighPage : Prop :=
  ∀ (n : Byte) (s : State),
    (highPage n).toNat = 0xFF00 + n.toNat ∧
    Completes .ldhCA s (fun t => Stored8 (highPage s.c) s.a s t ∧ SameRegs [] s t ∧ t.sp = s.sp ∧ SameControl s t ∧ t.pc = s.pc + 1) ∧
    Completes (.ldhImm8A n) s (fun t => Stored8 (highPage n) s.a s t ∧ SameRegs [] s t ∧ t.sp = s.sp ∧ SameControl s t ∧ t.pc = s.pc + 2) ∧
    Completes .ldhAC s (fun t => t.a = s.read8 (highPage s.c) ∧ RegFrame [.a] s t ∧ t.pc = s.pc + 1) ∧
    Completes (.ldhAImm8 n) s (fun t => t.a = s.read8 (highPage n) ∧ RegFrame [.a] s t ∧ t.pc = s.pc + 2)

/-! ### Control transfer and the stack -/

/-- R98: the condition a branch tests. -/
def Sys2Proof.Claims.Taken (cc : Cond) (s : State) : Prop :=
  match cc with
  | .nz => s.flag .z = false
  | .z => s.flag .z = true
  | .nc => s.flag .c = false
  | .c => s.flag .c = true

/-- R230 to R234: only PC changes; a relative target is `pc + 2` plus the signed offset, modulo 2^16. -/
def Obligations.Jumps : Prop :=
  ∀ (cc : Cond) (e8 : Byte) (n : Word) (s : State),
    Completes (.jrE8 e8) s (fun t => t.pc.toNat = (s.pc.toNat + 2 + signedOffset e8) % 65536 ∧ PcFrame s t) ∧
    Completes (.jrCondE8 cc e8) s (fun t =>
      (Taken cc s → t.pc.toNat = (s.pc.toNat + 2 + signedOffset e8) % 65536) ∧ (¬ Taken cc s → t.pc = s.pc + 2) ∧ PcFrame s t) ∧
    Completes (.jpImm16 n) s (fun t => t.pc = n ∧ PcFrame s t) ∧
    Completes (.jpCondImm16 cc n) s (fun t => (Taken cc s → t.pc = n) ∧ (¬ Taken cc s → t.pc = s.pc + 3) ∧ PcFrame s t) ∧
    Completes .jpHl s (fun t => t.pc = s.reg16 .hl ∧ PcFrame s t)

/-- A call: the return address is pushed, PC is the target. -/
def Sys2Proof.Claims.Called (ret target : Word) (s t : State) : Prop :=
  t.sp = s.sp - 2 ∧ Stored16 (s.sp - 2) ret s t ∧ t.pc = target ∧ SameRegs [] s t ∧ SameControl s t

/-- R235: SP is 2 lower, the low byte of `pc + 3` is at SP, the high byte at SP + 1. -/
def Obligations.CallPushesReturnAddress : Prop :=
  ∀ (n : Word) (s : State),
    Decodes (0b11001101 :: imm16Bytes n) (.callImm16 n) ∧ Completes (.callImm16 n) s (Called (s.pc + 3) n s) ∧ cycles (.callImm16 n) s = 6

/-- R236, R240: when the condition fails there is no push; RST calls `t * 8`. -/
def Obligations.ConditionalCallAndRst : Prop :=
  (∀ (cc : Cond) (n : Word) (s : State), Completes (.callCondImm16 cc n) s (fun t =>
    (Taken cc s → Called (s.pc + 3) n s t) ∧ (¬ Taken cc s → t.pc = s.pc + 3 ∧ PcFrame s t))) ∧
  ∀ (k : Fin 8) (s : State), Completes (.rstTgt3 k) s (Called (s.pc + 1) (BitVec.ofNat 16 (8 * k.val)) s)

/-- R237, R238, R239: the popped value is the next PC; RETI sets IME at once; a RET cond not taken does not move SP. -/
def Obligations.Returns : Prop :=
  ∀ (cc : Cond) (s : State),
    let popped := fun t : State => t.pc.toNat = wordAt s.sp s ∧ t.sp = s.sp + 2 ∧ SameRegs [] s t ∧ SameMem s t
    Completes .ret s (fun t => popped t ∧ SameControl s t) ∧
    Completes (.retCond cc) s (fun t => (Taken cc s → popped t ∧ SameControl s t) ∧ (¬ Taken cc s → t.pc = s.pc + 1 ∧ PcFrame s t)) ∧
    Completes .reti s (fun t => popped t ∧ t.ime = true ∧ t.imePending = s.imePending ∧ t.halted = s.halted ∧ t.stopped = s.stopped)

/-- R250, R251 -/
def Obligations.PushAndPop : Prop :=
  ∀ (rr : R16stk) (s : State),
    Completes (.pushR16stk rr) s (fun t => t.sp = s.sp - 2 ∧ Stored16 (s.sp - 2) (s.reg16 (nameOfR16stk rr)) s t ∧ SameRegs [] s t ∧
      SameControl s t ∧ t.pc = s.pc + 1) ∧
    Completes (.popR16stk rr) s (fun t =>
      (t.reg16 (nameOfR16stk rr)).toNat = (if rr = .af then wordAt s.sp s - (s.read8 s.sp).toNat % 16 else wordAt s.sp s) ∧
      t.sp = s.sp + 2 ∧ SameRegs (halvesOfR16stk rr) s t ∧ SameMem s t ∧ SameControl s t ∧ t.pc = s.pc + 1)

/-- The source's round trip: PUSH of one pair, then POP into any, moves the value (AF masked) and restores SP. -/
def Obligations.PushThenPopMovesTheValue : Prop :=
  ∀ (rr rr' : R16stk) (s : State), ∃ t u, exec (.pushR16stk rr) s = .next t ∧ exec (.popR16stk rr') t = .next u ∧ u.sp = s.sp ∧
    u.reg16 (nameOfR16stk rr') = (if rr' = .af then s.reg16 (nameOfR16stk rr) &&& 0xFFF0 else s.reg16 (nameOfR16stk rr)) ∧
    SameRegs (halvesOfR16stk rr') s u

/-- The source's round trip, over steps: a CALL, then a RET at its target, restores SP and goes on after the CALL. -/
def Obligations.CallThenRetReturns : Prop :=
  ∀ (s t : State) (n : Word), s.halted = false → s.stopped = false → fetchInstr s = .callImm16 n → step s = .next t →
    fetchInstr t = .ret → ∃ u, step t = .next u ∧ u.sp = s.sp ∧ u.pc = s.pc + 3

/-! ### Miscellaneous and system instructions -/

/-- R260, R262, R263, R264: flags not named are unchanged (decision D18). -/
def Obligations.NopCplScfCcf : Prop :=
  ∀ s : State,
    Completes .nop s (fun t => t.pc = s.pc + 1 ∧ PcFrame s t) ∧
    Completes .cpl s (fun t => t.a.toNat = 255 - s.a.toNat ∧ t.flags.z = s.flags.z ∧ t.flags.n = true ∧ t.flags.h = true ∧
      t.flags.c = s.flags.c ∧ t.pc = s.pc + 1 ∧ RegFrame [.a, .f] s t) ∧
    Completes .scf s (fun t => t.flags.z = s.flags.z ∧ t.flags.n = false ∧ t.flags.h = false ∧ t.flags.c = true ∧
      t.pc = s.pc + 1 ∧ RegFrame [.f] s t) ∧
    Completes .ccf s (fun t => t.flags.z = s.flags.z ∧ t.flags.n = false ∧ t.flags.h = false ∧ t.flags.c = !s.flags.c ∧
      t.pc = s.pc + 1 ∧ RegFrame [.f] s t)

/-- R261 on numbers: both corrections are decided from the original A and flags. -/
def Obligations.DaaAdjusts : Prop :=
  ∀ s : State, Completes .daa s (fun t =>
    (s.flags.n = false →
      t.a.toNat = (s.a.toNat + (if s.flags.c = true ∨ s.a.toNat > 0x99 then 0x60 else 0) + (if s.flags.h = true ∨ s.a.toNat % 16 > 9 then 6 else 0)) % 256 ∧
      SetIff t.flags.c (s.flags.c = true ∨ s.a.toNat > 0x99)) ∧
    (s.flags.n = true →
      t.a.toNat = (s.a.toNat + 256 - (if s.flags.c = true then 0x60 else 0) - (if s.flags.h = true then 6 else 0)) % 256 ∧
      t.flags.c = s.flags.c) ∧
    SetIff t.flags.z (t.a.toNat = 0) ∧ t.flags.n = s.flags.n ∧ t.flags.h = false ∧ t.pc = s.pc + 1 ∧ RegFrame [.a, .f] s t)

/-- The source's DAA identity, for ADD, and its subtract analogue (spec/95_test_vectors.md section 1.2), for all pairs of two-digit
numbers. -/
def Obligations.DaaGivesDecimalSumAndDifference : Prop :=
  ∀ (x y : Nat) (s : State), x < 100 → y < 100 →
    (∃ s1 s2 s3, exec (.ldR8Imm8 .a (bcd x)) s = .next s1 ∧ exec (.addAImm8 (bcd y)) s1 = .next s2 ∧ exec .daa s2 = .next s3 ∧
      s3.a = bcd ((x + y) % 100) ∧ SetIff s3.flags.c (x + y ≥ 100)) ∧
    (∃ s1 s2 s3, exec (.ldR8Imm8 .a (bcd x)) s = .next s1 ∧ exec (.subAImm8 (bcd y)) s1 = .next s2 ∧ exec .daa s2 = .next s3 ∧
      s3.a = bcd ((x + 100 - y) % 100) ∧ SetIff s3.flags.c (x < y))

/-- R265, R266, R268, R269: DI at once, EI only the counter, HALT and STOP only their own bit; STOP takes PC past its padding byte
whatever it is (that HALT behaves the same in every state is decision D4, that STOP is a pause D6). -/
def Obligations.DiEiHaltStop : Prop :=
  ∀ (pad : Byte) (s : State),
    let same := fun t : State => SameRegs [] s t ∧ t.sp = s.sp ∧ SameMem s t
    Completes .di s (fun t => t.ime = false ∧ t.imePending = 0 ∧ t.halted = s.halted ∧ t.stopped = s.stopped ∧ t.pc = s.pc + 1 ∧ same t) ∧
    Completes .ei s (fun t => t.ime = s.ime ∧ t.imePending = 1 ∧ t.halted = s.halted ∧ t.stopped = s.stopped ∧ t.pc = s.pc + 1 ∧ same t) ∧
    Completes .halt s (fun t => t.halted = true ∧ t.ime = s.ime ∧ t.imePending = s.imePending ∧ t.stopped = s.stopped ∧ t.pc = s.pc + 1 ∧ same t) ∧
    Completes (.stop pad) s (fun t => t.stopped = true ∧ t.ime = s.ime ∧ t.imePending = s.imePending ∧ t.halted = s.halted ∧ t.pc = s.pc + 2 ∧ same t)

/-! ### Interrupts -/

/-- R306 to R308 (decision D7): every request clears `halted`; with IME set it clears IME, pushes PC and goes to the vector; with IME
clear it does nothing else; `stopped`, ime_pending and the registers are untouched; a source outside 0..4 is refused. -/
def Obligations.RequestInterruptDispatchesOrWakes : Prop :=
  ∀ (n : Nat) (s : State),
    (n ≤ 4 → ∃ t, control (.requestInterrupt n) s = .next t ∧ t.halted = false ∧ t.stopped = s.stopped ∧ t.imePending = s.imePending ∧
      t.ime = false ∧ SameRegs [] s t ∧
      (s.ime = true → t.sp = s.sp - 2 ∧ Stored16 (s.sp - 2) s.pc s t ∧ t.pc.toNat = 0x0040 + 8 * n ∧
        requestAccesses n s = [.write (s.sp - 2) (t.read8 (s.sp - 2)), .write (s.sp - 1) (t.read8 (s.sp - 1))]) ∧
      (s.ime = false → t.sp = s.sp ∧ t.pc = s.pc ∧ SameMem s t ∧ requestAccesses n s = [])) ∧
    (4 < n → control (.requestInterrupt n) s = .refused (.noSuchInterruptSource n))

/-- R311: RETI as the handler's last instruction undoes a dispatch: PC, SP and IME are what they were, and no register has changed. -/
def Obligations.RetiUndoesDispatch : Prop :=
  ∀ (n : Nat) (s t : State), s.ime = true → control (.requestInterrupt n) s = .next t →
    Completes .reti t (fun u => u.pc = s.pc ∧ u.sp = s.sp ∧ u.ime = true ∧ SameRegs [] s u)

/-! ### Rules about all instructions -/

/-- R29 and the unchanged columns of R114: the instructions that write no flag leave all four; C, Z or N survive where the matrix says. -/
def Obligations.FlagsUnchangedWhereTheMatrixSaysSo : Prop :=
  ∀ (i : Instr) (s t : State), exec i s = .next t →
    (writesNoFlag i = true → t.flags = s.flags) ∧
    ((∃ r, i = .incR8 r) ∨ (∃ r, i = .decR8 r) ∨ (∃ b r, i = .bitBR8 b r) ∨ i = .cpl → t.flag .c = s.flag .c) ∧
    ((∃ rr, i = .addHlR16 rr) ∨ i = .cpl ∨ i = .scf ∨ i = .ccf → t.flag .z = s.flag .z) ∧
    (i = .daa → t.flag .n = s.flag .n)

/-- R28: N and H are read only by DAA and PUSH AF. Changing them before any other instruction changes nothing after it but N and H. -/
def Obligations.SubtractAndHalfCarryReadOnlyByDaaAndPushAf : Prop :=
  ∀ (i : Instr) (s t : State) (n h : Bool), i ≠ .daa → i ≠ .pushR16stk .af → exec i s = .next t →
    ∃ t', exec i (withNH n h s) = .next t' ∧ ∃ n' h', t' = withNH n' h' t

/-- R352, R353: every count R352 marks S (the source's own), that every count is at least 1, and that a count depends on the state
only through the conditions of the four conditional families. The counts marked G (log entry 7) are not stated here. -/
def Obligations.CycleCounts : Prop :=
  (∀ (i : Instr) (s : State), 1 ≤ cycles i s) ∧
  (∀ (i : Instr) (s s' : State), (∀ cc, Taken cc s ↔ Taken cc s') → cycles i s = cycles i s') ∧
  (∀ (i : Instr) (s s' : State), (∀ cc e8 n, i ≠ .jrCondE8 cc e8 ∧ i ≠ .jpCondImm16 cc n ∧ i ≠ .callCondImm16 cc n ∧ i ≠ .retCond cc) →
    cycles i s = cycles i s') ∧
  (∀ (cc : Cond) (n : Word) (rr : R16stk) (s : State),
    cycles .nop s = 1 ∧ (Taken cc s → cycles (.callCondImm16 cc n) s = 6 ∧ cycles (.retCond cc) s = 5) ∧
    (¬ Taken cc s → cycles (.callCondImm16 cc n) s = 3) ∧ cycles (.callImm16 n) s = 6 ∧ cycles .ret s = 4 ∧
    cycles (.pushR16stk rr) s = 4 ∧ cycles (.popR16stk rr) s = 3) ∧
  (∀ (dst src : R8) (s : State), regOf src ≠ none →
    (regOf dst ≠ none → cycles (.ldR8R8 dst src) s = 1) ∧ cycles (.ldR8R8 .hlInd src) s = 2) ∧
  ∀ (b : Fin 8) (r : R8) (s : State), (∀ i ∈ cbModifies b r, CyclesByOperand i r 2 4 s) ∧ CyclesByOperand (.bitBR8 b r) r 2 3 s

end
end

