-- ==== Sys2Proof/Laws/State.lean ====
section
/-! SUPPORT. One lemma per field per update of the state, and what each update leaves of a byte of memory. -/

namespace Sys2Proof.Machine

variable (s : State)

/-! `State.setA` -/

@[simp] theorem State.setA_a (v : Byte) : (s.setA v).a = v := rfl
@[simp] theorem State.setA_b (v : Byte) : (s.setA v).b = s.b := rfl
@[simp] theorem State.setA_c (v : Byte) : (s.setA v).c = s.c := rfl
@[simp] theorem State.setA_d (v : Byte) : (s.setA v).d = s.d := rfl
@[simp] theorem State.setA_e (v : Byte) : (s.setA v).e = s.e := rfl
@[simp] theorem State.setA_h (v : Byte) : (s.setA v).h = s.h := rfl
@[simp] theorem State.setA_l (v : Byte) : (s.setA v).l = s.l := rfl
@[simp] theorem State.setA_flags (v : Byte) : (s.setA v).flags = s.flags := rfl
@[simp] theorem State.setA_sp (v : Byte) : (s.setA v).sp = s.sp := rfl
@[simp] theorem State.setA_pc (v : Byte) : (s.setA v).pc = s.pc := rfl
@[simp] theorem State.setA_ime (v : Byte) : (s.setA v).ime = s.ime := rfl
@[simp] theorem State.setA_imePending (v : Byte) : (s.setA v).imePending = s.imePending := rfl
@[simp] theorem State.setA_halted (v : Byte) : (s.setA v).halted = s.halted := rfl
@[simp] theorem State.setA_stopped (v : Byte) : (s.setA v).stopped = s.stopped := rfl
@[simp] theorem State.setA_mem (v : Byte) : (s.setA v).mem = s.mem := rfl
@[simp] theorem State.setA_read8 (v : Byte) (x : Word) : (s.setA v).read8 x = s.read8 x := rfl

/-! `State.setB` -/

@[simp] theorem State.setB_a (v : Byte) : (s.setB v).a = s.a := rfl
@[simp] theorem State.setB_b (v : Byte) : (s.setB v).b = v := rfl
@[simp] theorem State.setB_c (v : Byte) : (s.setB v).c = s.c := rfl
@[simp] theorem State.setB_d (v : Byte) : (s.setB v).d = s.d := rfl
@[simp] theorem State.setB_e (v : Byte) : (s.setB v).e = s.e := rfl
@[simp] theorem State.setB_h (v : Byte) : (s.setB v).h = s.h := rfl
@[simp] theorem State.setB_l (v : Byte) : (s.setB v).l = s.l := rfl
@[simp] theorem State.setB_flags (v : Byte) : (s.setB v).flags = s.flags := rfl
@[simp] theorem State.setB_sp (v : Byte) : (s.setB v).sp = s.sp := rfl
@[simp] theorem State.setB_pc (v : Byte) : (s.setB v).pc = s.pc := rfl
@[simp] theorem State.setB_ime (v : Byte) : (s.setB v).ime = s.ime := rfl
@[simp] theorem State.setB_imePending (v : Byte) : (s.setB v).imePending = s.imePending := rfl
@[simp] theorem State.setB_halted (v : Byte) : (s.setB v).halted = s.halted := rfl
@[simp] theorem State.setB_stopped (v : Byte) : (s.setB v).stopped = s.stopped := rfl
@[simp] theorem State.setB_mem (v : Byte) : (s.setB v).mem = s.mem := rfl
@[simp] theorem State.setB_read8 (v : Byte) (x : Word) : (s.setB v).read8 x = s.read8 x := rfl

/-! `State.setC` -/

@[simp] theorem State.setC_a (v : Byte) : (s.setC v).a = s.a := rfl
@[simp] theorem State.setC_b (v : Byte) : (s.setC v).b = s.b := rfl
@[simp] theorem State.setC_c (v : Byte) : (s.setC v).c = v := rfl
@[simp] theorem State.setC_d (v : Byte) : (s.setC v).d = s.d := rfl
@[simp] theorem State.setC_e (v : Byte) : (s.setC v).e = s.e := rfl
@[simp] theorem State.setC_h (v : Byte) : (s.setC v).h = s.h := rfl
@[simp] theorem State.setC_l (v : Byte) : (s.setC v).l = s.l := rfl
@[simp] theorem State.setC_flags (v : Byte) : (s.setC v).flags = s.flags := rfl
@[simp] theorem State.setC_sp (v : Byte) : (s.setC v).sp = s.sp := rfl
@[simp] theorem State.setC_pc (v : Byte) : (s.setC v).pc = s.pc := rfl
@[simp] theorem State.setC_ime (v : Byte) : (s.setC v).ime = s.ime := rfl
@[simp] theorem State.setC_imePending (v : Byte) : (s.setC v).imePending = s.imePending := rfl
@[simp] theorem State.setC_halted (v : Byte) : (s.setC v).halted = s.halted := rfl
@[simp] theorem State.setC_stopped (v : Byte) : (s.setC v).stopped = s.stopped := rfl
@[simp] theorem State.setC_mem (v : Byte) : (s.setC v).mem = s.mem := rfl
@[simp] theorem State.setC_read8 (v : Byte) (x : Word) : (s.setC v).read8 x = s.read8 x := rfl

/-! `State.setD` -/

@[simp] theorem State.setD_a (v : Byte) : (s.setD v).a = s.a := rfl
@[simp] theorem State.setD_b (v : Byte) : (s.setD v).b = s.b := rfl
@[simp] theorem State.setD_c (v : Byte) : (s.setD v).c = s.c := rfl
@[simp] theorem State.setD_d (v : Byte) : (s.setD v).d = v := rfl
@[simp] theorem State.setD_e (v : Byte) : (s.setD v).e = s.e := rfl
@[simp] theorem State.setD_h (v : Byte) : (s.setD v).h = s.h := rfl
@[simp] theorem State.setD_l (v : Byte) : (s.setD v).l = s.l := rfl
@[simp] theorem State.setD_flags (v : Byte) : (s.setD v).flags = s.flags := rfl
@[simp] theorem State.setD_sp (v : Byte) : (s.setD v).sp = s.sp := rfl
@[simp] theorem State.setD_pc (v : Byte) : (s.setD v).pc = s.pc := rfl
@[simp] theorem State.setD_ime (v : Byte) : (s.setD v).ime = s.ime := rfl
@[simp] theorem State.setD_imePending (v : Byte) : (s.setD v).imePending = s.imePending := rfl
@[simp] theorem State.setD_halted (v : Byte) : (s.setD v).halted = s.halted := rfl
@[simp] theorem State.setD_stopped (v : Byte) : (s.setD v).stopped = s.stopped := rfl
@[simp] theorem State.setD_mem (v : Byte) : (s.setD v).mem = s.mem := rfl
@[simp] theorem State.setD_read8 (v : Byte) (x : Word) : (s.setD v).read8 x = s.read8 x := rfl

/-! `State.setE` -/

@[simp] theorem State.setE_a (v : Byte) : (s.setE v).a = s.a := rfl
@[simp] theorem State.setE_b (v : Byte) : (s.setE v).b = s.b := rfl
@[simp] theorem State.setE_c (v : Byte) : (s.setE v).c = s.c := rfl
@[simp] theorem State.setE_d (v : Byte) : (s.setE v).d = s.d := rfl
@[simp] theorem State.setE_e (v : Byte) : (s.setE v).e = v := rfl
@[simp] theorem State.setE_h (v : Byte) : (s.setE v).h = s.h := rfl
@[simp] theorem State.setE_l (v : Byte) : (s.setE v).l = s.l := rfl
@[simp] theorem State.setE_flags (v : Byte) : (s.setE v).flags = s.flags := rfl
@[simp] theorem State.setE_sp (v : Byte) : (s.setE v).sp = s.sp := rfl
@[simp] theorem State.setE_pc (v : Byte) : (s.setE v).pc = s.pc := rfl
@[simp] theorem State.setE_ime (v : Byte) : (s.setE v).ime = s.ime := rfl
@[simp] theorem State.setE_imePending (v : Byte) : (s.setE v).imePending = s.imePending := rfl
@[simp] theorem State.setE_halted (v : Byte) : (s.setE v).halted = s.halted := rfl
@[simp] theorem State.setE_stopped (v : Byte) : (s.setE v).stopped = s.stopped := rfl
@[simp] theorem State.setE_mem (v : Byte) : (s.setE v).mem = s.mem := rfl
@[simp] theorem State.setE_read8 (v : Byte) (x : Word) : (s.setE v).read8 x = s.read8 x := rfl

/-! `State.setH` -/

@[simp] theorem State.setH_a (v : Byte) : (s.setH v).a = s.a := rfl
@[simp] theorem State.setH_b (v : Byte) : (s.setH v).b = s.b := rfl
@[simp] theorem State.setH_c (v : Byte) : (s.setH v).c = s.c := rfl
@[simp] theorem State.setH_d (v : Byte) : (s.setH v).d = s.d := rfl
@[simp] theorem State.setH_e (v : Byte) : (s.setH v).e = s.e := rfl
@[simp] theorem State.setH_h (v : Byte) : (s.setH v).h = v := rfl
@[simp] theorem State.setH_l (v : Byte) : (s.setH v).l = s.l := rfl
@[simp] theorem State.setH_flags (v : Byte) : (s.setH v).flags = s.flags := rfl
@[simp] theorem State.setH_sp (v : Byte) : (s.setH v).sp = s.sp := rfl
@[simp] theorem State.setH_pc (v : Byte) : (s.setH v).pc = s.pc := rfl
@[simp] theorem State.setH_ime (v : Byte) : (s.setH v).ime = s.ime := rfl
@[simp] theorem State.setH_imePending (v : Byte) : (s.setH v).imePending = s.imePending := rfl
@[simp] theorem State.setH_halted (v : Byte) : (s.setH v).halted = s.halted := rfl
@[simp] theorem State.setH_stopped (v : Byte) : (s.setH v).stopped = s.stopped := rfl
@[simp] theorem State.setH_mem (v : Byte) : (s.setH v).mem = s.mem := rfl
@[simp] theorem State.setH_read8 (v : Byte) (x : Word) : (s.setH v).read8 x = s.read8 x := rfl

/-! `State.setL` -/

@[simp] theorem State.setL_a (v : Byte) : (s.setL v).a = s.a := rfl
@[simp] theorem State.setL_b (v : Byte) : (s.setL v).b = s.b := rfl
@[simp] theorem State.setL_c (v : Byte) : (s.setL v).c = s.c := rfl
@[simp] theorem State.setL_d (v : Byte) : (s.setL v).d = s.d := rfl
@[simp] theorem State.setL_e (v : Byte) : (s.setL v).e = s.e := rfl
@[simp] theorem State.setL_h (v : Byte) : (s.setL v).h = s.h := rfl
@[simp] theorem State.setL_l (v : Byte) : (s.setL v).l = v := rfl
@[simp] theorem State.setL_flags (v : Byte) : (s.setL v).flags = s.flags := rfl
@[simp] theorem State.setL_sp (v : Byte) : (s.setL v).sp = s.sp := rfl
@[simp] theorem State.setL_pc (v : Byte) : (s.setL v).pc = s.pc := rfl
@[simp] theorem State.setL_ime (v : Byte) : (s.setL v).ime = s.ime := rfl
@[simp] theorem State.setL_imePending (v : Byte) : (s.setL v).imePending = s.imePending := rfl
@[simp] theorem State.setL_halted (v : Byte) : (s.setL v).halted = s.halted := rfl
@[simp] theorem State.setL_stopped (v : Byte) : (s.setL v).stopped = s.stopped := rfl
@[simp] theorem State.setL_mem (v : Byte) : (s.setL v).mem = s.mem := rfl
@[simp] theorem State.setL_read8 (v : Byte) (x : Word) : (s.setL v).read8 x = s.read8 x := rfl

/-! `State.setFlags` -/

@[simp] theorem State.setFlags_a (v : Flags) : (s.setFlags v).a = s.a := rfl
@[simp] theorem State.setFlags_b (v : Flags) : (s.setFlags v).b = s.b := rfl
@[simp] theorem State.setFlags_c (v : Flags) : (s.setFlags v).c = s.c := rfl
@[simp] theorem State.setFlags_d (v : Flags) : (s.setFlags v).d = s.d := rfl
@[simp] theorem State.setFlags_e (v : Flags) : (s.setFlags v).e = s.e := rfl
@[simp] theorem State.setFlags_h (v : Flags) : (s.setFlags v).h = s.h := rfl
@[simp] theorem State.setFlags_l (v : Flags) : (s.setFlags v).l = s.l := rfl
@[simp] theorem State.setFlags_flags (v : Flags) : (s.setFlags v).flags = v := rfl
@[simp] theorem State.setFlags_sp (v : Flags) : (s.setFlags v).sp = s.sp := rfl
@[simp] theorem State.setFlags_pc (v : Flags) : (s.setFlags v).pc = s.pc := rfl
@[simp] theorem State.setFlags_ime (v : Flags) : (s.setFlags v).ime = s.ime := rfl
@[simp] theorem State.setFlags_imePending (v : Flags) : (s.setFlags v).imePending = s.imePending := rfl
@[simp] theorem State.setFlags_halted (v : Flags) : (s.setFlags v).halted = s.halted := rfl
@[simp] theorem State.setFlags_stopped (v : Flags) : (s.setFlags v).stopped = s.stopped := rfl
@[simp] theorem State.setFlags_mem (v : Flags) : (s.setFlags v).mem = s.mem := rfl
@[simp] theorem State.setFlags_read8 (v : Flags) (x : Word) : (s.setFlags v).read8 x = s.read8 x := rfl

/-! `State.setSp` -/

@[simp] theorem State.setSp_a (v : Word) : (s.setSp v).a = s.a := rfl
@[simp] theorem State.setSp_b (v : Word) : (s.setSp v).b = s.b := rfl
@[simp] theorem State.setSp_c (v : Word) : (s.setSp v).c = s.c := rfl
@[simp] theorem State.setSp_d (v : Word) : (s.setSp v).d = s.d := rfl
@[simp] theorem State.setSp_e (v : Word) : (s.setSp v).e = s.e := rfl
@[simp] theorem State.setSp_h (v : Word) : (s.setSp v).h = s.h := rfl
@[simp] theorem State.setSp_l (v : Word) : (s.setSp v).l = s.l := rfl
@[simp] theorem State.setSp_flags (v : Word) : (s.setSp v).flags = s.flags := rfl
@[simp] theorem State.setSp_sp (v : Word) : (s.setSp v).sp = v := rfl
@[simp] theorem State.setSp_pc (v : Word) : (s.setSp v).pc = s.pc := rfl
@[simp] theorem State.setSp_ime (v : Word) : (s.setSp v).ime = s.ime := rfl
@[simp] theorem State.setSp_imePending (v : Word) : (s.setSp v).imePending = s.imePending := rfl
@[simp] theorem State.setSp_halted (v : Word) : (s.setSp v).halted = s.halted := rfl
@[simp] theorem State.setSp_stopped (v : Word) : (s.setSp v).stopped = s.stopped := rfl
@[simp] theorem State.setSp_mem (v : Word) : (s.setSp v).mem = s.mem := rfl
@[simp] theorem State.setSp_read8 (v : Word) (x : Word) : (s.setSp v).read8 x = s.read8 x := rfl

/-! `State.setPc` -/

@[simp] theorem State.setPc_a (v : Word) : (s.setPc v).a = s.a := rfl
@[simp] theorem State.setPc_b (v : Word) : (s.setPc v).b = s.b := rfl
@[simp] theorem State.setPc_c (v : Word) : (s.setPc v).c = s.c := rfl
@[simp] theorem State.setPc_d (v : Word) : (s.setPc v).d = s.d := rfl
@[simp] theorem State.setPc_e (v : Word) : (s.setPc v).e = s.e := rfl
@[simp] theorem State.setPc_h (v : Word) : (s.setPc v).h = s.h := rfl
@[simp] theorem State.setPc_l (v : Word) : (s.setPc v).l = s.l := rfl
@[simp] theorem State.setPc_flags (v : Word) : (s.setPc v).flags = s.flags := rfl
@[simp] theorem State.setPc_sp (v : Word) : (s.setPc v).sp = s.sp := rfl
@[simp] theorem State.setPc_pc (v : Word) : (s.setPc v).pc = v := rfl
@[simp] theorem State.setPc_ime (v : Word) : (s.setPc v).ime = s.ime := rfl
@[simp] theorem State.setPc_imePending (v : Word) : (s.setPc v).imePending = s.imePending := rfl
@[simp] theorem State.setPc_halted (v : Word) : (s.setPc v).halted = s.halted := rfl
@[simp] theorem State.setPc_stopped (v : Word) : (s.setPc v).stopped = s.stopped := rfl
@[simp] theorem State.setPc_mem (v : Word) : (s.setPc v).mem = s.mem := rfl
@[simp] theorem State.setPc_read8 (v : Word) (x : Word) : (s.setPc v).read8 x = s.read8 x := rfl

/-! `State.setIme` -/

@[simp] theorem State.setIme_a (v : Bool) : (s.setIme v).a = s.a := rfl
@[simp] theorem State.setIme_b (v : Bool) : (s.setIme v).b = s.b := rfl
@[simp] theorem State.setIme_c (v : Bool) : (s.setIme v).c = s.c := rfl
@[simp] theorem State.setIme_d (v : Bool) : (s.setIme v).d = s.d := rfl
@[simp] theorem State.setIme_e (v : Bool) : (s.setIme v).e = s.e := rfl
@[simp] theorem State.setIme_h (v : Bool) : (s.setIme v).h = s.h := rfl
@[simp] theorem State.setIme_l (v : Bool) : (s.setIme v).l = s.l := rfl
@[simp] theorem State.setIme_flags (v : Bool) : (s.setIme v).flags = s.flags := rfl
@[simp] theorem State.setIme_sp (v : Bool) : (s.setIme v).sp = s.sp := rfl
@[simp] theorem State.setIme_pc (v : Bool) : (s.setIme v).pc = s.pc := rfl
@[simp] theorem State.setIme_ime (v : Bool) : (s.setIme v).ime = v := rfl
@[simp] theorem State.setIme_imePending (v : Bool) : (s.setIme v).imePending = s.imePending := rfl
@[simp] theorem State.setIme_halted (v : Bool) : (s.setIme v).halted = s.halted := rfl
@[simp] theorem State.setIme_stopped (v : Bool) : (s.setIme v).stopped = s.stopped := rfl
@[simp] theorem State.setIme_mem (v : Bool) : (s.setIme v).mem = s.mem := rfl
@[simp] theorem State.setIme_read8 (v : Bool) (x : Word) : (s.setIme v).read8 x = s.read8 x := rfl

/-! `State.setImePending` -/

@[simp] theorem State.setImePending_a (v : Nat) : (s.setImePending v).a = s.a := rfl
@[simp] theorem State.setImePending_b (v : Nat) : (s.setImePending v).b = s.b := rfl
@[simp] theorem State.setImePending_c (v : Nat) : (s.setImePending v).c = s.c := rfl
@[simp] theorem State.setImePending_d (v : Nat) : (s.setImePending v).d = s.d := rfl
@[simp] theorem State.setImePending_e (v : Nat) : (s.setImePending v).e = s.e := rfl
@[simp] theorem State.setImePending_h (v : Nat) : (s.setImePending v).h = s.h := rfl
@[simp] theorem State.setImePending_l (v : Nat) : (s.setImePending v).l = s.l := rfl
@[simp] theorem State.setImePending_flags (v : Nat) : (s.setImePending v).flags = s.flags := rfl
@[simp] theorem State.setImePending_sp (v : Nat) : (s.setImePending v).sp = s.sp := rfl
@[simp] theorem State.setImePending_pc (v : Nat) : (s.setImePending v).pc = s.pc := rfl
@[simp] theorem State.setImePending_ime (v : Nat) : (s.setImePending v).ime = s.ime := rfl
@[simp] theorem State.setImePending_imePending (v : Nat) : (s.setImePending v).imePending = v := rfl
@[simp] theorem State.setImePending_halted (v : Nat) : (s.setImePending v).halted = s.halted := rfl
@[simp] theorem State.setImePending_stopped (v : Nat) : (s.setImePending v).stopped = s.stopped := rfl
@[simp] theorem State.setImePending_mem (v : Nat) : (s.setImePending v).mem = s.mem := rfl
@[simp] theorem State.setImePending_read8 (v : Nat) (x : Word) : (s.setImePending v).read8 x = s.read8 x := rfl

/-! `State.setHalted` -/

@[simp] theorem State.setHalted_a (v : Bool) : (s.setHalted v).a = s.a := rfl
@[simp] theorem State.setHalted_b (v : Bool) : (s.setHalted v).b = s.b := rfl
@[simp] theorem State.setHalted_c (v : Bool) : (s.setHalted v).c = s.c := rfl
@[simp] theorem State.setHalted_d (v : Bool) : (s.setHalted v).d = s.d := rfl
@[simp] theorem State.setHalted_e (v : Bool) : (s.setHalted v).e = s.e := rfl
@[simp] theorem State.setHalted_h (v : Bool) : (s.setHalted v).h = s.h := rfl
@[simp] theorem State.setHalted_l (v : Bool) : (s.setHalted v).l = s.l := rfl
@[simp] theorem State.setHalted_flags (v : Bool) : (s.setHalted v).flags = s.flags := rfl
@[simp] theorem State.setHalted_sp (v : Bool) : (s.setHalted v).sp = s.sp := rfl
@[simp] theorem State.setHalted_pc (v : Bool) : (s.setHalted v).pc = s.pc := rfl
@[simp] theorem State.setHalted_ime (v : Bool) : (s.setHalted v).ime = s.ime := rfl
@[simp] theorem State.setHalted_imePending (v : Bool) : (s.setHalted v).imePending = s.imePending := rfl
@[simp] theorem State.setHalted_halted (v : Bool) : (s.setHalted v).halted = v := rfl
@[simp] theorem State.setHalted_stopped (v : Bool) : (s.setHalted v).stopped = s.stopped := rfl
@[simp] theorem State.setHalted_mem (v : Bool) : (s.setHalted v).mem = s.mem := rfl
@[simp] theorem State.setHalted_read8 (v : Bool) (x : Word) : (s.setHalted v).read8 x = s.read8 x := rfl

/-! `State.setStopped` -/

@[simp] theorem State.setStopped_a (v : Bool) : (s.setStopped v).a = s.a := rfl
@[simp] theorem State.setStopped_b (v : Bool) : (s.setStopped v).b = s.b := rfl
@[simp] theorem State.setStopped_c (v : Bool) : (s.setStopped v).c = s.c := rfl
@[simp] theorem State.setStopped_d (v : Bool) : (s.setStopped v).d = s.d := rfl
@[simp] theorem State.setStopped_e (v : Bool) : (s.setStopped v).e = s.e := rfl
@[simp] theorem State.setStopped_h (v : Bool) : (s.setStopped v).h = s.h := rfl
@[simp] theorem State.setStopped_l (v : Bool) : (s.setStopped v).l = s.l := rfl
@[simp] theorem State.setStopped_flags (v : Bool) : (s.setStopped v).flags = s.flags := rfl
@[simp] theorem State.setStopped_sp (v : Bool) : (s.setStopped v).sp = s.sp := rfl
@[simp] theorem State.setStopped_pc (v : Bool) : (s.setStopped v).pc = s.pc := rfl
@[simp] theorem State.setStopped_ime (v : Bool) : (s.setStopped v).ime = s.ime := rfl
@[simp] theorem State.setStopped_imePending (v : Bool) : (s.setStopped v).imePending = s.imePending := rfl
@[simp] theorem State.setStopped_halted (v : Bool) : (s.setStopped v).halted = s.halted := rfl
@[simp] theorem State.setStopped_stopped (v : Bool) : (s.setStopped v).stopped = v := rfl
@[simp] theorem State.setStopped_mem (v : Bool) : (s.setStopped v).mem = s.mem := rfl
@[simp] theorem State.setStopped_read8 (v : Bool) (x : Word) : (s.setStopped v).read8 x = s.read8 x := rfl

/-! `State.setMem` -/

@[simp] theorem State.setMem_a (v : Memory) : (s.setMem v).a = s.a := rfl
@[simp] theorem State.setMem_b (v : Memory) : (s.setMem v).b = s.b := rfl
@[simp] theorem State.setMem_c (v : Memory) : (s.setMem v).c = s.c := rfl
@[simp] theorem State.setMem_d (v : Memory) : (s.setMem v).d = s.d := rfl
@[simp] theorem State.setMem_e (v : Memory) : (s.setMem v).e = s.e := rfl
@[simp] theorem State.setMem_h (v : Memory) : (s.setMem v).h = s.h := rfl
@[simp] theorem State.setMem_l (v : Memory) : (s.setMem v).l = s.l := rfl
@[simp] theorem State.setMem_flags (v : Memory) : (s.setMem v).flags = s.flags := rfl
@[simp] theorem State.setMem_sp (v : Memory) : (s.setMem v).sp = s.sp := rfl
@[simp] theorem State.setMem_pc (v : Memory) : (s.setMem v).pc = s.pc := rfl
@[simp] theorem State.setMem_ime (v : Memory) : (s.setMem v).ime = s.ime := rfl
@[simp] theorem State.setMem_imePending (v : Memory) : (s.setMem v).imePending = s.imePending := rfl
@[simp] theorem State.setMem_halted (v : Memory) : (s.setMem v).halted = s.halted := rfl
@[simp] theorem State.setMem_stopped (v : Memory) : (s.setMem v).stopped = s.stopped := rfl
@[simp] theorem State.setMem_mem (v : Memory) : (s.setMem v).mem = v := rfl

/-! `State.advance` -/

@[simp] theorem State.advance_a (n : Word) : (s.advance n).a = s.a := rfl
@[simp] theorem State.advance_b (n : Word) : (s.advance n).b = s.b := rfl
@[simp] theorem State.advance_c (n : Word) : (s.advance n).c = s.c := rfl
@[simp] theorem State.advance_d (n : Word) : (s.advance n).d = s.d := rfl
@[simp] theorem State.advance_e (n : Word) : (s.advance n).e = s.e := rfl
@[simp] theorem State.advance_h (n : Word) : (s.advance n).h = s.h := rfl
@[simp] theorem State.advance_l (n : Word) : (s.advance n).l = s.l := rfl
@[simp] theorem State.advance_flags (n : Word) : (s.advance n).flags = s.flags := rfl
@[simp] theorem State.advance_sp (n : Word) : (s.advance n).sp = s.sp := rfl
@[simp] theorem State.advance_pc (n : Word) : (s.advance n).pc = s.pc + n := rfl
@[simp] theorem State.advance_ime (n : Word) : (s.advance n).ime = s.ime := rfl
@[simp] theorem State.advance_imePending (n : Word) : (s.advance n).imePending = s.imePending := rfl
@[simp] theorem State.advance_halted (n : Word) : (s.advance n).halted = s.halted := rfl
@[simp] theorem State.advance_stopped (n : Word) : (s.advance n).stopped = s.stopped := rfl
@[simp] theorem State.advance_mem (n : Word) : (s.advance n).mem = s.mem := rfl
@[simp] theorem State.advance_read8 (n x : Word) : (s.advance n).read8 x = s.read8 x := rfl

end Sys2Proof.Machine
end

