-- ==== Sys2Proof/Laws/Memory.lean ====
section
/-! SUPPORT. The laws of memory: read after write, and that every operation keeps the canonical form. -/

namespace Sys2Proof.Machine

theorem Memory.read_cons (k : Nat) (v : Byte) (m : Memory) (y : Nat) :
    Memory.read ((k, v) :: m) y = if k = y then v else Memory.read m y := rfl

theorem Memory.read_erase (m : Memory) (x y : Nat) :
    Memory.read (Memory.erase m x) y = if y = x then Config.unwrittenByte else Memory.read m y := by
  induction m with
  | nil => simp [Memory.erase, Memory.read]
  | cons p m ih =>
    obtain ⟨k, v⟩ := p
    by_cases hk : k = x
    · simp only [Memory.erase, hk, if_true, ih, Memory.read_cons]
      by_cases hy : y = x
      · simp [hy]
      · simp [hy, Ne.symm hy]
    · simp only [Memory.erase, hk, if_false, Memory.read_cons, ih]
      by_cases hy : y = x
      · simp [hy, hk]
      · simp [hy]

theorem Memory.read_insert_erase (m : Memory) (x y : Nat) (v : Byte) :
    Memory.read (Memory.insert (Memory.erase m x) x v) y = if y = x then v else Memory.read m y := by
  induction m with
  | nil => simp [Memory.erase, Memory.insert, Memory.read, eq_comm]
  | cons p m ih =>
    obtain ⟨k, w⟩ := p
    by_cases hk : k = x
    · simp only [Memory.erase, hk, if_true, ih, Memory.read_cons]
      by_cases hy : y = x
      · simp [hy]
      · simp [hy, Ne.symm hy]
    · simp only [Memory.erase, hk, if_false, Memory.insert]
      by_cases hy : y = x
      · subst hy
        by_cases hl : k < y <;> simp [hl, hk, Memory.read_cons, ih]
      · by_cases hl : k < x <;> simp [hl, hy, Ne.symm hy, Memory.read_cons, ih, Memory.read_erase]

/-- A byte read after a byte written. -/
theorem Memory.read_write (m : Memory) (x y : Nat) (v : Byte) :
    Memory.read (Memory.write m x v) y = if y = x then v else Memory.read m y := by
  unfold Memory.write
  split
  · next h => rw [Memory.read_erase, h]
  · exact Memory.read_insert_erase m x y v

theorem Memory.wfFrom_mono {lo lo' : Nat} {m : Memory} (h : lo ≤ lo') (w : Memory.wfFrom lo' m = true) : Memory.wfFrom lo m = true := by
  cases m with
  | nil => rfl
  | cons p m =>
    obtain ⟨k, v⟩ := p
    simp only [Memory.wfFrom, Bool.and_eq_true, decide_eq_true_eq] at w ⊢
    exact ⟨⟨⟨by omega, w.1.1.2⟩, w.1.2⟩, w.2⟩

theorem Memory.wfFrom_erase {lo x : Nat} {m : Memory} (w : Memory.wfFrom lo m = true) : Memory.wfFrom lo (Memory.erase m x) = true := by
  induction m generalizing lo with
  | nil => rfl
  | cons p m ih =>
    obtain ⟨k, v⟩ := p
    simp only [Memory.wfFrom, Bool.and_eq_true, decide_eq_true_eq] at w
    simp only [Memory.erase]
    split
    · exact Memory.wfFrom_mono (by omega) (ih w.2)
    · simp only [Memory.wfFrom, Bool.and_eq_true, decide_eq_true_eq]
      exact ⟨w.1, ih w.2⟩

theorem Memory.wfFrom_insert_erase {lo x : Nat} {m : Memory} {v : Byte} (hx : x < 2 ^ 16) (hlo : lo ≤ x) (hv : v ≠ Config.unwrittenByte)
    (w : Memory.wfFrom lo m = true) : Memory.wfFrom lo (Memory.insert (Memory.erase m x) x v) = true := by
  induction m generalizing lo with
  | nil =>
    simp only [Memory.erase, Memory.insert, Memory.wfFrom, Bool.and_eq_true, decide_eq_true_eq]
    exact ⟨⟨⟨hlo, hx⟩, by simpa using hv⟩, trivial⟩
  | cons p m ih =>
    obtain ⟨k, u⟩ := p
    simp only [Memory.wfFrom, Bool.and_eq_true, decide_eq_true_eq] at w
    simp only [Memory.erase]
    split
    · exact ih hlo (Memory.wfFrom_mono (by omega) w.2)
    · next hk =>
      simp only [Memory.insert]
      split
      · simp only [Memory.wfFrom, Bool.and_eq_true, decide_eq_true_eq]
        exact ⟨w.1, ih (by omega) w.2⟩
      · simp only [Memory.wfFrom, Bool.and_eq_true, decide_eq_true_eq]
        exact ⟨⟨⟨hlo, hx⟩, by simpa using hv⟩, ⟨⟨by omega, w.1.1.2⟩, w.1.2⟩, Memory.wfFrom_erase w.2⟩

/-- A write keeps the canonical form. -/
theorem Memory.wf_write {m : Memory} {x : Nat} {v : Byte} (hx : x < 2 ^ 16) (w : Memory.wf m = true) : Memory.wf (Memory.write m x v) = true := by
  unfold Memory.write
  split
  · exact Memory.wfFrom_erase w
  · next hv => exact Memory.wfFrom_insert_erase hx (Nat.zero_le x) hv w

theorem State.wf_write8 {s : State} (x : Word) (v : Byte) (w : Memory.wf s.mem = true) : Memory.wf (s.write8 x v).mem = true :=
  Memory.wf_write x.isLt w

theorem State.wf_write16 {s : State} (x v : Word) (w : Memory.wf s.mem = true) : Memory.wf (s.write16 x v).mem = true :=
  State.wf_write8 _ _ (State.wf_write8 _ _ w)

theorem State.wf_push16 {s : State} (v : Word) (w : Memory.wf s.mem = true) : Memory.wf (s.push16 v).mem = true :=
  State.wf_write16 _ _ w

theorem State.wf_callTo {s : State} (r t : Word) (w : Memory.wf s.mem = true) : Memory.wf (s.callTo r t).mem = true :=
  State.wf_push16 _ w

theorem State.wf_setR8 {s : State} (r : R8) (v : Byte) (w : Memory.wf s.mem = true) : Memory.wf (s.setR8 r v).mem = true := by
  cases r
  case hlInd => exact State.wf_write8 _ _ w
  all_goals exact w

end Sys2Proof.Machine
end

