-- ==== Sys2Proof/Laws/Ops.lean ====
section
/-! SUPPORT. What each shared operation does, field by field: the provers cite these and leave the operations folded. -/

namespace Sys2Proof.Machine

variable (s : State)

/-! `State.write8`, `State.write16`, `State.push16`, `State.callTo`: memory, and SP and PC where they say so -/

@[simp] theorem State.write8_a (x : Word) (v : Byte) : (s.write8 x v).a = s.a := rfl
@[simp] theorem State.write8_b (x : Word) (v : Byte) : (s.write8 x v).b = s.b := rfl
@[simp] theorem State.write8_c (x : Word) (v : Byte) : (s.write8 x v).c = s.c := rfl
@[simp] theorem State.write8_d (x : Word) (v : Byte) : (s.write8 x v).d = s.d := rfl
@[simp] theorem State.write8_e (x : Word) (v : Byte) : (s.write8 x v).e = s.e := rfl
@[simp] theorem State.write8_h (x : Word) (v : Byte) : (s.write8 x v).h = s.h := rfl
@[simp] theorem State.write8_l (x : Word) (v : Byte) : (s.write8 x v).l = s.l := rfl
@[simp] theorem State.write8_flags (x : Word) (v : Byte) : (s.write8 x v).flags = s.flags := rfl
@[simp] theorem State.write8_sp (x : Word) (v : Byte) : (s.write8 x v).sp = s.sp := rfl
@[simp] theorem State.write8_pc (x : Word) (v : Byte) : (s.write8 x v).pc = s.pc := rfl
@[simp] theorem State.write8_ime (x : Word) (v : Byte) : (s.write8 x v).ime = s.ime := rfl
@[simp] theorem State.write8_imePending (x : Word) (v : Byte) : (s.write8 x v).imePending = s.imePending := rfl
@[simp] theorem State.write8_halted (x : Word) (v : Byte) : (s.write8 x v).halted = s.halted := rfl
@[simp] theorem State.write8_stopped (x : Word) (v : Byte) : (s.write8 x v).stopped = s.stopped := rfl

@[simp] theorem State.write16_a (x v : Word) : (s.write16 x v).a = s.a := rfl
@[simp] theorem State.write16_b (x v : Word) : (s.write16 x v).b = s.b := rfl
@[simp] theorem State.write16_c (x v : Word) : (s.write16 x v).c = s.c := rfl
@[simp] theorem State.write16_d (x v : Word) : (s.write16 x v).d = s.d := rfl
@[simp] theorem State.write16_e (x v : Word) : (s.write16 x v).e = s.e := rfl
@[simp] theorem State.write16_h (x v : Word) : (s.write16 x v).h = s.h := rfl
@[simp] theorem State.write16_l (x v : Word) : (s.write16 x v).l = s.l := rfl
@[simp] theorem State.write16_flags (x v : Word) : (s.write16 x v).flags = s.flags := rfl
@[simp] theorem State.write16_sp (x v : Word) : (s.write16 x v).sp = s.sp := rfl
@[simp] theorem State.write16_pc (x v : Word) : (s.write16 x v).pc = s.pc := rfl
@[simp] theorem State.write16_ime (x v : Word) : (s.write16 x v).ime = s.ime := rfl
@[simp] theorem State.write16_imePending (x v : Word) : (s.write16 x v).imePending = s.imePending := rfl
@[simp] theorem State.write16_halted (x v : Word) : (s.write16 x v).halted = s.halted := rfl
@[simp] theorem State.write16_stopped (x v : Word) : (s.write16 x v).stopped = s.stopped := rfl

@[simp] theorem State.push16_a (v : Word) : (s.push16 v).a = s.a := rfl
@[simp] theorem State.push16_b (v : Word) : (s.push16 v).b = s.b := rfl
@[simp] theorem State.push16_c (v : Word) : (s.push16 v).c = s.c := rfl
@[simp] theorem State.push16_d (v : Word) : (s.push16 v).d = s.d := rfl
@[simp] theorem State.push16_e (v : Word) : (s.push16 v).e = s.e := rfl
@[simp] theorem State.push16_h (v : Word) : (s.push16 v).h = s.h := rfl
@[simp] theorem State.push16_l (v : Word) : (s.push16 v).l = s.l := rfl
@[simp] theorem State.push16_flags (v : Word) : (s.push16 v).flags = s.flags := rfl
@[simp] theorem State.push16_sp (v : Word) : (s.push16 v).sp = s.sp - 2 := rfl
@[simp] theorem State.push16_pc (v : Word) : (s.push16 v).pc = s.pc := rfl
@[simp] theorem State.push16_ime (v : Word) : (s.push16 v).ime = s.ime := rfl
@[simp] theorem State.push16_imePending (v : Word) : (s.push16 v).imePending = s.imePending := rfl
@[simp] theorem State.push16_halted (v : Word) : (s.push16 v).halted = s.halted := rfl
@[simp] theorem State.push16_stopped (v : Word) : (s.push16 v).stopped = s.stopped := rfl

@[simp] theorem State.callTo_a (r t : Word) : (s.callTo r t).a = s.a := rfl
@[simp] theorem State.callTo_b (r t : Word) : (s.callTo r t).b = s.b := rfl
@[simp] theorem State.callTo_c (r t : Word) : (s.callTo r t).c = s.c := rfl
@[simp] theorem State.callTo_d (r t : Word) : (s.callTo r t).d = s.d := rfl
@[simp] theorem State.callTo_e (r t : Word) : (s.callTo r t).e = s.e := rfl
@[simp] theorem State.callTo_h (r t : Word) : (s.callTo r t).h = s.h := rfl
@[simp] theorem State.callTo_l (r t : Word) : (s.callTo r t).l = s.l := rfl
@[simp] theorem State.callTo_flags (r t : Word) : (s.callTo r t).flags = s.flags := rfl
@[simp] theorem State.callTo_sp (r t : Word) : (s.callTo r t).sp = s.sp - 2 := rfl
@[simp] theorem State.callTo_pc (r t : Word) : (s.callTo r t).pc = t := rfl
@[simp] theorem State.callTo_ime (r t : Word) : (s.callTo r t).ime = s.ime := rfl
@[simp] theorem State.callTo_imePending (r t : Word) : (s.callTo r t).imePending = s.imePending := rfl
@[simp] theorem State.callTo_halted (r t : Word) : (s.callTo r t).halted = s.halted := rfl
@[simp] theorem State.callTo_stopped (r t : Word) : (s.callTo r t).stopped = s.stopped := rfl

/-! `State.pop16`, `State.returnToPopped`, `State.returnFromInterrupt`: no memory is written -/

@[simp] theorem State.pop16_fst : s.pop16.1 = s.read16 s.sp := rfl
@[simp] theorem State.pop16_snd_a : (s.pop16.2).a = s.a := rfl
@[simp] theorem State.pop16_snd_b : (s.pop16.2).b = s.b := rfl
@[simp] theorem State.pop16_snd_c : (s.pop16.2).c = s.c := rfl
@[simp] theorem State.pop16_snd_d : (s.pop16.2).d = s.d := rfl
@[simp] theorem State.pop16_snd_e : (s.pop16.2).e = s.e := rfl
@[simp] theorem State.pop16_snd_h : (s.pop16.2).h = s.h := rfl
@[simp] theorem State.pop16_snd_l : (s.pop16.2).l = s.l := rfl
@[simp] theorem State.pop16_snd_flags : (s.pop16.2).flags = s.flags := rfl
@[simp] theorem State.pop16_snd_sp : (s.pop16.2).sp = s.sp + 2 := rfl
@[simp] theorem State.pop16_snd_pc : (s.pop16.2).pc = s.pc := rfl
@[simp] theorem State.pop16_snd_ime : (s.pop16.2).ime = s.ime := rfl
@[simp] theorem State.pop16_snd_imePending : (s.pop16.2).imePending = s.imePending := rfl
@[simp] theorem State.pop16_snd_halted : (s.pop16.2).halted = s.halted := rfl
@[simp] theorem State.pop16_snd_stopped : (s.pop16.2).stopped = s.stopped := rfl
@[simp] theorem State.pop16_snd_mem : (s.pop16.2).mem = s.mem := rfl

@[simp] theorem State.returnToPopped_a : (s.returnToPopped).a = s.a := rfl
@[simp] theorem State.returnToPopped_b : (s.returnToPopped).b = s.b := rfl
@[simp] theorem State.returnToPopped_c : (s.returnToPopped).c = s.c := rfl
@[simp] theorem State.returnToPopped_d : (s.returnToPopped).d = s.d := rfl
@[simp] theorem State.returnToPopped_e : (s.returnToPopped).e = s.e := rfl
@[simp] theorem State.returnToPopped_h : (s.returnToPopped).h = s.h := rfl
@[simp] theorem State.returnToPopped_l : (s.returnToPopped).l = s.l := rfl
@[simp] theorem State.returnToPopped_flags : (s.returnToPopped).flags = s.flags := rfl
@[simp] theorem State.returnToPopped_sp : (s.returnToPopped).sp = s.sp + 2 := rfl
@[simp] theorem State.returnToPopped_pc : (s.returnToPopped).pc = s.read16 s.sp := rfl
@[simp] theorem State.returnToPopped_ime : (s.returnToPopped).ime = s.ime := rfl
@[simp] theorem State.returnToPopped_imePending : (s.returnToPopped).imePending = s.imePending := rfl
@[simp] theorem State.returnToPopped_halted : (s.returnToPopped).halted = s.halted := rfl
@[simp] theorem State.returnToPopped_stopped : (s.returnToPopped).stopped = s.stopped := rfl
@[simp] theorem State.returnToPopped_mem : (s.returnToPopped).mem = s.mem := rfl

@[simp] theorem State.returnFromInterrupt_a : (s.returnFromInterrupt).a = s.a := rfl
@[simp] theorem State.returnFromInterrupt_b : (s.returnFromInterrupt).b = s.b := rfl
@[simp] theorem State.returnFromInterrupt_c : (s.returnFromInterrupt).c = s.c := rfl
@[simp] theorem State.returnFromInterrupt_d : (s.returnFromInterrupt).d = s.d := rfl
@[simp] theorem State.returnFromInterrupt_e : (s.returnFromInterrupt).e = s.e := rfl
@[simp] theorem State.returnFromInterrupt_h : (s.returnFromInterrupt).h = s.h := rfl
@[simp] theorem State.returnFromInterrupt_l : (s.returnFromInterrupt).l = s.l := rfl
@[simp] theorem State.returnFromInterrupt_flags : (s.returnFromInterrupt).flags = s.flags := rfl
@[simp] theorem State.returnFromInterrupt_sp : (s.returnFromInterrupt).sp = s.sp + 2 := rfl
@[simp] theorem State.returnFromInterrupt_pc : (s.returnFromInterrupt).pc = s.read16 s.sp := rfl
@[simp] theorem State.returnFromInterrupt_ime : (s.returnFromInterrupt).ime = true := rfl
@[simp] theorem State.returnFromInterrupt_imePending : (s.returnFromInterrupt).imePending = s.imePending := rfl
@[simp] theorem State.returnFromInterrupt_halted : (s.returnFromInterrupt).halted = s.halted := rfl
@[simp] theorem State.returnFromInterrupt_stopped : (s.returnFromInterrupt).stopped = s.stopped := rfl
@[simp] theorem State.returnFromInterrupt_mem : (s.returnFromInterrupt).mem = s.mem := rfl

/-! `State.setR8`: one register, or the memory byte at HL -/

@[simp] theorem State.setR8_flags (r : R8) (v : Byte) : (s.setR8 r v).flags = s.flags := by cases r <;> rfl
@[simp] theorem State.setR8_sp (r : R8) (v : Byte) : (s.setR8 r v).sp = s.sp := by cases r <;> rfl
@[simp] theorem State.setR8_pc (r : R8) (v : Byte) : (s.setR8 r v).pc = s.pc := by cases r <;> rfl
@[simp] theorem State.setR8_ime (r : R8) (v : Byte) : (s.setR8 r v).ime = s.ime := by cases r <;> rfl
@[simp] theorem State.setR8_imePending (r : R8) (v : Byte) : (s.setR8 r v).imePending = s.imePending := by cases r <;> rfl
@[simp] theorem State.setR8_halted (r : R8) (v : Byte) : (s.setR8 r v).halted = s.halted := by cases r <;> rfl
@[simp] theorem State.setR8_stopped (r : R8) (v : Byte) : (s.setR8 r v).stopped = s.stopped := by cases r <;> rfl

/-! `State.setR16`, `State.setR16stk`, `State.r16memPost` -/

@[simp] theorem State.setR16_a (r : R16) (w : Word) : (s.setR16 r w).a = s.a := by cases r <;> rfl
@[simp] theorem State.setR16_flags (r : R16) (w : Word) : (s.setR16 r w).flags = s.flags := by cases r <;> rfl
@[simp] theorem State.setR16_pc (r : R16) (w : Word) : (s.setR16 r w).pc = s.pc := by cases r <;> rfl
@[simp] theorem State.setR16_ime (r : R16) (w : Word) : (s.setR16 r w).ime = s.ime := by cases r <;> rfl
@[simp] theorem State.setR16_imePending (r : R16) (w : Word) : (s.setR16 r w).imePending = s.imePending := by cases r <;> rfl
@[simp] theorem State.setR16_halted (r : R16) (w : Word) : (s.setR16 r w).halted = s.halted := by cases r <;> rfl
@[simp] theorem State.setR16_stopped (r : R16) (w : Word) : (s.setR16 r w).stopped = s.stopped := by cases r <;> rfl
@[simp] theorem State.setR16_mem (r : R16) (w : Word) : (s.setR16 r w).mem = s.mem := by cases r <;> rfl
@[simp] theorem State.setR16stk_sp (r : R16stk) (w : Word) : (s.setR16stk r w).sp = s.sp := by cases r <;> rfl
@[simp] theorem State.setR16stk_pc (r : R16stk) (w : Word) : (s.setR16stk r w).pc = s.pc := by cases r <;> rfl
@[simp] theorem State.setR16stk_ime (r : R16stk) (w : Word) : (s.setR16stk r w).ime = s.ime := by cases r <;> rfl
@[simp] theorem State.setR16stk_imePending (r : R16stk) (w : Word) : (s.setR16stk r w).imePending = s.imePending := by cases r <;> rfl
@[simp] theorem State.setR16stk_halted (r : R16stk) (w : Word) : (s.setR16stk r w).halted = s.halted := by cases r <;> rfl
@[simp] theorem State.setR16stk_stopped (r : R16stk) (w : Word) : (s.setR16stk r w).stopped = s.stopped := by cases r <;> rfl
@[simp] theorem State.setR16stk_mem (r : R16stk) (w : Word) : (s.setR16stk r w).mem = s.mem := by cases r <;> rfl
@[simp] theorem State.r16memPost_a (r : R16mem) : (s.r16memPost r).a = s.a := by cases r <;> rfl
@[simp] theorem State.r16memPost_b (r : R16mem) : (s.r16memPost r).b = s.b := by cases r <;> rfl
@[simp] theorem State.r16memPost_c (r : R16mem) : (s.r16memPost r).c = s.c := by cases r <;> rfl
@[simp] theorem State.r16memPost_d (r : R16mem) : (s.r16memPost r).d = s.d := by cases r <;> rfl
@[simp] theorem State.r16memPost_e (r : R16mem) : (s.r16memPost r).e = s.e := by cases r <;> rfl
@[simp] theorem State.r16memPost_flags (r : R16mem) : (s.r16memPost r).flags = s.flags := by cases r <;> rfl
@[simp] theorem State.r16memPost_sp (r : R16mem) : (s.r16memPost r).sp = s.sp := by cases r <;> rfl
@[simp] theorem State.r16memPost_pc (r : R16mem) : (s.r16memPost r).pc = s.pc := by cases r <;> rfl
@[simp] theorem State.r16memPost_ime (r : R16mem) : (s.r16memPost r).ime = s.ime := by cases r <;> rfl
@[simp] theorem State.r16memPost_imePending (r : R16mem) : (s.r16memPost r).imePending = s.imePending := by cases r <;> rfl
@[simp] theorem State.r16memPost_halted (r : R16mem) : (s.r16memPost r).halted = s.halted := by cases r <;> rfl
@[simp] theorem State.r16memPost_stopped (r : R16mem) : (s.r16memPost r).stopped = s.stopped := by cases r <;> rfl
@[simp] theorem State.r16memPost_mem (r : R16mem) : (s.r16memPost r).mem = s.mem := by cases r <;> rfl

/-! ### The 16-bit views -/

theorem joinBytes_toNat (hi lo : Byte) : (joinBytes hi lo).toNat = hi.toNat * 256 + lo.toNat := by
  simp only [joinBytes, BitVec.toNat_append]
  rw [← Nat.shiftLeft_add_eq_or_of_lt lo.isLt, Nat.shiftLeft_eq]

theorem loByte_toNat (w : Word) : (loByte w).toNat = w.toNat % 256 := by
  simp [loByte]

theorem hiByte_toNat (w : Word) : (hiByte w).toNat = w.toNat / 256 := by
  have := w.isLt
  simp only [hiByte, BitVec.extractLsb'_toNat, Nat.shiftRight_eq_div_pow]
  omega

@[simp] theorem loByte_joinBytes (hi lo : Byte) : loByte (joinBytes hi lo) = lo := by
  apply BitVec.eq_of_toNat_eq
  have := lo.isLt
  rw [loByte_toNat, joinBytes_toNat]
  omega

@[simp] theorem hiByte_joinBytes (hi lo : Byte) : hiByte (joinBytes hi lo) = hi := by
  apply BitVec.eq_of_toNat_eq
  have := lo.isLt
  rw [hiByte_toNat, joinBytes_toNat]
  omega

@[simp] theorem joinBytes_hiByte_loByte (w : Word) : joinBytes (hiByte w) (loByte w) = w := by
  apply BitVec.eq_of_toNat_eq
  rw [joinBytes_toNat, hiByte_toNat, loByte_toNat]
  omega

@[simp] theorem State.bc_setBc (w : Word) : (s.setBc w).bc = w := joinBytes_hiByte_loByte w
@[simp] theorem State.de_setDe (w : Word) : (s.setDe w).de = w := joinBytes_hiByte_loByte w
@[simp] theorem State.hl_setHl (w : Word) : (s.setHl w).hl = w := joinBytes_hiByte_loByte w

/-- A 16-bit operand reads back what was written. -/
theorem State.getR16_setR16 (r : R16) (w : Word) : (s.setR16 r w).getR16 r = w := by
  cases r
  · exact s.bc_setBc w
  · exact s.de_setDe w
  · exact s.hl_setHl w
  · rfl

/-! ### Bytes of memory -/

/-- A byte read after a byte written. -/
theorem State.read8_write8 (x y : Word) (v : Byte) : (s.write8 x v).read8 y = if y = x then v else s.read8 y := by
  unfold State.read8 State.write8
  simp only [State.setMem_mem, Memory.read_write]
  by_cases h : y = x
  · simp [h]
  · have : y.toNat ≠ x.toNat := fun e => h (BitVec.eq_of_toNat_eq e)
    simp [h, this]

/-- The bytes of a 16-bit write: the low byte at `x`, the high byte at `x + 1`, the rest as before. -/
theorem State.read8_write16 (x y v : Word) :
    (s.write16 x v).read8 y = if y = x + 1 then hiByte v else if y = x then loByte v else s.read8 y := by
  unfold State.write16
  rw [State.read8_write8, State.read8_write8]

/-- A word read where it was written. -/
theorem State.read16_write16 (x v : Word) : (s.write16 x v).read16 x = v := by
  unfold State.read16
  rw [State.read8_write16, State.read8_write16]
  simp

/-! ### The step driver -/

/-- Everything the tick can do (R284). -/
theorem imeTick_cases (captured : Nat) :
    (captured ≠ 0 ∧ s.imePending ≠ 0 ∧ imeTick captured s = (s.setIme true).setImePending 0) ∨
    ((captured = 0 ∨ s.imePending = 0) ∧ imeTick captured s = s) := by
  unfold imeTick
  split
  · next h => exact .inl ⟨h.1, h.2, rfl⟩
  · next h => exact .inr ⟨by omega, rfl⟩

theorem tickResult_eq_next {captured : Nat} {o : Result} {t : State} (h : tickResult captured o = .next t) :
    ∃ u, o = .next u ∧ t = imeTick captured u := by
  cases o with
  | next u => exact ⟨u, rfl, by simpa [tickResult] using h.symm⟩
  | fault r => simp [tickResult] at h
  | refused r => simp [tickResult] at h

/-- Everything `request_interrupt` can do when it is a legal call (R306). -/
theorem requestInterrupt_eq_next {n : Nat} {t : State} (h : requestInterrupt n s = .next t) :
    n ≤ 4 ∧ ((s.ime = true ∧ t = dispatchInterrupt n (s.setHalted false)) ∨ (s.ime = false ∧ t = s.setHalted false)) := by
  unfold requestInterrupt at h
  split at h
  · next hn =>
    refine ⟨hn, ?_⟩
    cases hi : s.ime <;> simp [hi] at h <;> simp [h]
  · simp at h

end Sys2Proof.Machine
end

