-- ==== Sys2Proof/Laws/Bus.lean ====
section
/-! SUPPORT. What performing a list of accesses does: memory alone, at the written addresses alone. -/

namespace Sys2Proof.Machine

@[simp] theorem performWrites_nil (s : State) : performWrites [] s = s := rfl
@[simp] theorem performWrites_read (x : Word) (v : Byte) (l : List BusAccess) (s : State) : performWrites (.read x v :: l) s = performWrites l s := rfl
@[simp] theorem performWrites_write (x : Word) (v : Byte) (l : List BusAccess) (s : State) :
    performWrites (.write x v :: l) s = performWrites l (s.write8 x v) := rfl
@[simp] theorem writtenAddrs_nil : writtenAddrs [] = [] := rfl
@[simp] theorem writtenAddrs_read (x : Word) (v : Byte) (l : List BusAccess) : writtenAddrs (.read x v :: l) = writtenAddrs l := rfl
@[simp] theorem writtenAddrs_write (x : Word) (v : Byte) (l : List BusAccess) : writtenAddrs (.write x v :: l) = x :: writtenAddrs l := rfl

/-- One list after another. -/
theorem performWrites_append (l l' : List BusAccess) (s : State) : performWrites (l ++ l') s = performWrites l' (performWrites l s) := by
  induction l generalizing s with
  | nil => rfl
  | cons b l ih => cases b <;> exact ih _

/-- Reads, such as those of an instruction's bytes, perform nothing. -/
theorem performWrites_map_readAt (addr : Nat → Word) (s₀ : State) (l : List Nat) (s : State) :
    performWrites (l.map fun k => readAt (addr k) s₀) s = s := by
  induction l with
  | nil => rfl
  | cons k l ih => exact ih

/-- A byte whose address is not written is left. -/
theorem read8_performWrites_of_notMem {l : List BusAccess} {x : Word} (s : State) (h : x ∉ writtenAddrs l) :
    (performWrites l s).read8 x = s.read8 x := by
  induction l generalizing s with
  | nil => rfl
  | cons b l ih =>
    cases b with
    | read y v => exact ih s h
    | write y v =>
      obtain ⟨hxy, hl⟩ := not_or.mp (mt List.mem_cons.mpr h)
      rw [performWrites_write, ih _ hl, State.read8_write8, if_neg hxy]

end Sys2Proof.Machine
end

