-- ==== Sys2Proof/Laws/Encoding.lean ====
section
/-! SUPPORT. The selectors of the decoder and the encoder agree. -/

namespace Sys2Proof

@[simp] theorem R8.ofCode_code (r : R8) : R8.ofCode r.code = r := by cases r <;> rfl
@[simp] theorem R16.ofCode_code (r : R16) : R16.ofCode r.code = r := by cases r <;> rfl
@[simp] theorem R16stk.ofCode_code (r : R16stk) : R16stk.ofCode r.code = r := by cases r <;> rfl
@[simp] theorem R16mem.ofCode_code (r : R16mem) : R16mem.ofCode r.code = r := by cases r <;> rfl
@[simp] theorem Cond.ofCode_code (cc : Cond) : Cond.ofCode cc.code = cc := by cases cc <;> rfl
@[simp] theorem indexOfCode_indexCode (i : Fin 8) : indexOfCode (indexCode i) = i := rfl
@[simp] theorem indexCode_indexOfCode (i : BitVec 3) : indexCode (indexOfCode i) = i := rfl

/-- The two bytes of an `imm16` give it back. -/
@[simp] theorem imm16OfBytes_extract (w : Word) : imm16OfBytes (w.extractLsb' 0 8) (w.extractLsb' 8 8) = w := by
  apply BitVec.eq_of_toNat_eq
  have hlo : (w.extractLsb' 0 8).toNat = w.toNat % 256 := by simp
  have hhi : (w.extractLsb' 8 8).toNat = w.toNat / 256 := by
    have := w.isLt
    simp only [BitVec.extractLsb'_toNat, Nat.shiftRight_eq_div_pow]
    omega
  simp only [imm16OfBytes, BitVec.toNat_append]
  rw [← Nat.shiftLeft_add_eq_or_of_lt (w.extractLsb' 0 8).isLt, Nat.shiftLeft_eq, hlo, hhi]
  omega

end Sys2Proof
end

