-- ==== Sys2Proof/Laws/PerInstr.lean ====
section
/-! SUPPORT. Lemmas made per instruction: one per constructor of `Instr`. -/

namespace Sys2Proof.Laws.EncodeLength

/-- The words of an instruction are as many as its format says: one, two or three bytes (spec/30_encoding.md R91). -/
def Statement (i : Instr) : Prop := (encode i).length = i.length ∧ 1 ≤ i.length ∧ i.length ≤ 3

theorem of_length {i : Instr} (n : Nat) (he : (encode i).length = n) (hl : i.length = n) (hn : n = 1 ∨ n = 2 ∨ n = 3) : Statement i :=
  ⟨he.trans hl.symm, by omega, by omega⟩

theorem nop : Statement (.nop) := of_length 1 rfl rfl (.inl rfl)
theorem ldR16Imm16 (rr : R16) (imm16 : Word) : Statement (.ldR16Imm16 rr imm16) := of_length 3 rfl rfl (.inr (.inr rfl))
theorem ldR16memA (rr : R16mem) : Statement (.ldR16memA rr) := of_length 1 rfl rfl (.inl rfl)
theorem ldAR16mem (rr : R16mem) : Statement (.ldAR16mem rr) := of_length 1 rfl rfl (.inl rfl)
theorem ldImm16Sp (imm16 : Word) : Statement (.ldImm16Sp imm16) := of_length 3 rfl rfl (.inr (.inr rfl))
theorem incR16 (rr : R16) : Statement (.incR16 rr) := of_length 1 rfl rfl (.inl rfl)
theorem decR16 (rr : R16) : Statement (.decR16 rr) := of_length 1 rfl rfl (.inl rfl)
theorem addHlR16 (rr : R16) : Statement (.addHlR16 rr) := of_length 1 rfl rfl (.inl rfl)
theorem incR8 (dst : R8) : Statement (.incR8 dst) := of_length 1 rfl rfl (.inl rfl)
theorem decR8 (dst : R8) : Statement (.decR8 dst) := of_length 1 rfl rfl (.inl rfl)
theorem ldR8Imm8 (dst : R8) (imm8 : Byte) : Statement (.ldR8Imm8 dst imm8) := of_length 2 rfl rfl (.inr (.inl rfl))
theorem rlca : Statement (.rlca) := of_length 1 rfl rfl (.inl rfl)
theorem rrca : Statement (.rrca) := of_length 1 rfl rfl (.inl rfl)
theorem rla : Statement (.rla) := of_length 1 rfl rfl (.inl rfl)
theorem rra : Statement (.rra) := of_length 1 rfl rfl (.inl rfl)
theorem daa : Statement (.daa) := of_length 1 rfl rfl (.inl rfl)
theorem cpl : Statement (.cpl) := of_length 1 rfl rfl (.inl rfl)
theorem scf : Statement (.scf) := of_length 1 rfl rfl (.inl rfl)
theorem ccf : Statement (.ccf) := of_length 1 rfl rfl (.inl rfl)
theorem jrE8 (e8 : Byte) : Statement (.jrE8 e8) := of_length 2 rfl rfl (.inr (.inl rfl))
theorem jrCondE8 (cc : Cond) (e8 : Byte) : Statement (.jrCondE8 cc e8) := of_length 2 rfl rfl (.inr (.inl rfl))
theorem stop (pad : Byte) : Statement (.stop pad) := of_length 2 rfl rfl (.inr (.inl rfl))
theorem halt : Statement (.halt) := of_length 1 rfl rfl (.inl rfl)
theorem ldR8R8 (dst src : R8) : Statement (.ldR8R8 dst src) := of_length 1 rfl rfl (.inl rfl)
theorem addAR8 (src : R8) : Statement (.addAR8 src) := of_length 1 rfl rfl (.inl rfl)
theorem adcAR8 (src : R8) : Statement (.adcAR8 src) := of_length 1 rfl rfl (.inl rfl)
theorem subAR8 (src : R8) : Statement (.subAR8 src) := of_length 1 rfl rfl (.inl rfl)
theorem sbcAR8 (src : R8) : Statement (.sbcAR8 src) := of_length 1 rfl rfl (.inl rfl)
theorem andAR8 (src : R8) : Statement (.andAR8 src) := of_length 1 rfl rfl (.inl rfl)
theorem xorAR8 (src : R8) : Statement (.xorAR8 src) := of_length 1 rfl rfl (.inl rfl)
theorem orAR8 (src : R8) : Statement (.orAR8 src) := of_length 1 rfl rfl (.inl rfl)
theorem cpAR8 (src : R8) : Statement (.cpAR8 src) := of_length 1 rfl rfl (.inl rfl)
theorem addAImm8 (imm8 : Byte) : Statement (.addAImm8 imm8) := of_length 2 rfl rfl (.inr (.inl rfl))
theorem adcAImm8 (imm8 : Byte) : Statement (.adcAImm8 imm8) := of_length 2 rfl rfl (.inr (.inl rfl))
theorem subAImm8 (imm8 : Byte) : Statement (.subAImm8 imm8) := of_length 2 rfl rfl (.inr (.inl rfl))
theorem sbcAImm8 (imm8 : Byte) : Statement (.sbcAImm8 imm8) := of_length 2 rfl rfl (.inr (.inl rfl))
theorem andAImm8 (imm8 : Byte) : Statement (.andAImm8 imm8) := of_length 2 rfl rfl (.inr (.inl rfl))
theorem xorAImm8 (imm8 : Byte) : Statement (.xorAImm8 imm8) := of_length 2 rfl rfl (.inr (.inl rfl))
theorem orAImm8 (imm8 : Byte) : Statement (.orAImm8 imm8) := of_length 2 rfl rfl (.inr (.inl rfl))
theorem cpAImm8 (imm8 : Byte) : Statement (.cpAImm8 imm8) := of_length 2 rfl rfl (.inr (.inl rfl))
theorem retCond (cc : Cond) : Statement (.retCond cc) := of_length 1 rfl rfl (.inl rfl)
theorem ret : Statement (.ret) := of_length 1 rfl rfl (.inl rfl)
theorem reti : Statement (.reti) := of_length 1 rfl rfl (.inl rfl)
theorem jpCondImm16 (cc : Cond) (imm16 : Word) : Statement (.jpCondImm16 cc imm16) := of_length 3 rfl rfl (.inr (.inr rfl))
theorem jpImm16 (imm16 : Word) : Statement (.jpImm16 imm16) := of_length 3 rfl rfl (.inr (.inr rfl))
theorem jpHl : Statement (.jpHl) := of_length 1 rfl rfl (.inl rfl)
theorem callCondImm16 (cc : Cond) (imm16 : Word) : Statement (.callCondImm16 cc imm16) := of_length 3 rfl rfl (.inr (.inr rfl))
theorem callImm16 (imm16 : Word) : Statement (.callImm16 imm16) := of_length 3 rfl rfl (.inr (.inr rfl))
theorem rstTgt3 (t : Fin 8) : Statement (.rstTgt3 t) := of_length 1 rfl rfl (.inl rfl)
theorem popR16stk (rr : R16stk) : Statement (.popR16stk rr) := of_length 1 rfl rfl (.inl rfl)
theorem pushR16stk (rr : R16stk) : Statement (.pushR16stk rr) := of_length 1 rfl rfl (.inl rfl)
theorem prefixCb (cb : Byte) : Statement (.prefixCb cb) := of_length 2 rfl rfl (.inr (.inl rfl))
theorem ldhCA : Statement (.ldhCA) := of_length 1 rfl rfl (.inl rfl)
theorem ldhImm8A (imm8 : Byte) : Statement (.ldhImm8A imm8) := of_length 2 rfl rfl (.inr (.inl rfl))
theorem ldImm16A (imm16 : Word) : Statement (.ldImm16A imm16) := of_length 3 rfl rfl (.inr (.inr rfl))
theorem ldhAC : Statement (.ldhAC) := of_length 1 rfl rfl (.inl rfl)
theorem ldhAImm8 (imm8 : Byte) : Statement (.ldhAImm8 imm8) := of_length 2 rfl rfl (.inr (.inl rfl))
theorem ldAImm16 (imm16 : Word) : Statement (.ldAImm16 imm16) := of_length 3 rfl rfl (.inr (.inr rfl))
theorem addSpE8 (e8 : Byte) : Statement (.addSpE8 e8) := of_length 2 rfl rfl (.inr (.inl rfl))
theorem ldHlSpE8 (e8 : Byte) : Statement (.ldHlSpE8 e8) := of_length 2 rfl rfl (.inr (.inl rfl))
theorem ldSpHl : Statement (.ldSpHl) := of_length 1 rfl rfl (.inl rfl)
theorem di : Statement (.di) := of_length 1 rfl rfl (.inl rfl)
theorem ei : Statement (.ei) := of_length 1 rfl rfl (.inl rfl)
theorem undefinedD3 : Statement (.undefinedD3) := of_length 1 rfl rfl (.inl rfl)
theorem undefinedDB : Statement (.undefinedDB) := of_length 1 rfl rfl (.inl rfl)
theorem undefinedDD : Statement (.undefinedDD) := of_length 1 rfl rfl (.inl rfl)
theorem undefinedE3 : Statement (.undefinedE3) := of_length 1 rfl rfl (.inl rfl)
theorem undefinedE4 : Statement (.undefinedE4) := of_length 1 rfl rfl (.inl rfl)
theorem undefinedEB : Statement (.undefinedEB) := of_length 1 rfl rfl (.inl rfl)
theorem undefinedEC : Statement (.undefinedEC) := of_length 1 rfl rfl (.inl rfl)
theorem undefinedED : Statement (.undefinedED) := of_length 1 rfl rfl (.inl rfl)
theorem undefinedF4 : Statement (.undefinedF4) := of_length 1 rfl rfl (.inl rfl)
theorem undefinedFC : Statement (.undefinedFC) := of_length 1 rfl rfl (.inl rfl)
theorem undefinedFD : Statement (.undefinedFD) := of_length 1 rfl rfl (.inl rfl)
theorem rlcR8 (src : R8) : Statement (.rlcR8 src) := of_length 2 rfl rfl (.inr (.inl rfl))
theorem rrcR8 (src : R8) : Statement (.rrcR8 src) := of_length 2 rfl rfl (.inr (.inl rfl))
theorem rlR8 (src : R8) : Statement (.rlR8 src) := of_length 2 rfl rfl (.inr (.inl rfl))
theorem rrR8 (src : R8) : Statement (.rrR8 src) := of_length 2 rfl rfl (.inr (.inl rfl))
theorem slaR8 (src : R8) : Statement (.slaR8 src) := of_length 2 rfl rfl (.inr (.inl rfl))
theorem sraR8 (src : R8) : Statement (.sraR8 src) := of_length 2 rfl rfl (.inr (.inl rfl))
theorem swapR8 (src : R8) : Statement (.swapR8 src) := of_length 2 rfl rfl (.inr (.inl rfl))
theorem srlR8 (src : R8) : Statement (.srlR8 src) := of_length 2 rfl rfl (.inr (.inl rfl))
theorem bitBR8 (b : Fin 8) (src : R8) : Statement (.bitBR8 b src) := of_length 2 rfl rfl (.inr (.inl rfl))
theorem resBR8 (b : Fin 8) (src : R8) : Statement (.resBR8 b src) := of_length 2 rfl rfl (.inr (.inl rfl))
theorem setBR8 (b : Fin 8) (src : R8) : Statement (.setBR8 b src) := of_length 2 rfl rfl (.inr (.inl rfl))

end Sys2Proof.Laws.EncodeLength
end

