-- ==== Sys2Proof/Tests/Slice0.lean ====
section
/-! SUPPORT. The model's own tests (expected values from spec/95_test_vectors.md, the section named beside each group), and a
witness for the hypotheses of every statement that has some. -/

namespace Sys2Proof.Tests

open Sys2Proof Sys2Proof.Machine Sys2Proof.Claims

/-! ### Well-formedness and decoding -/

/-- Each check of `wellFormed` refuses its ill-formed term. -/
theorem test_illformed_ld_hl_hl : (Instr.ldR8R8 .hlInd .hlInd).wellFormed = false := by decide
theorem test_illformed_prefix_row : (Instr.prefixCb 0).wellFormed = false := by decide

/-- The bytes, all of them, decode to the instruction. -/
def decodesTo (row : List Byte × Instr) : Bool :=
  match decode row.1 with
  | .ok (i, []) => i == row.2
  | _ => false

/-- spec/30_encoding.md R100. -/
theorem test_decode_block0 : ([
    ([0b00000000], .nop), ([0b00110001, 0x34, 0x12], .ldR16Imm16 .sp 0x1234), ([0b00010010], .ldR16memA .de),
    ([0b00101010], .ldAR16mem .hlInc), ([0b00001000, 0x00, 0xC2], .ldImm16Sp 0xC200), ([0b00000011], .incR16 .bc),
    ([0b00011011], .decR16 .de), ([0b00101001], .addHlR16 .hl), ([0b00101100], .incR8 .l), ([0b00110101], .decR8 .hlInd)]
    : List (List Byte × Instr)).all decodesTo = true := by decide
theorem test_decode_block0_rest : ([
    ([0b00111110, 0x5A], .ldR8Imm8 .a 0x5A), ([0b00000111], .rlca), ([0b00001111], .rrca), ([0b00010111], .rla), ([0b00011111], .rra),
    ([0b00100111], .daa), ([0b00101111], .cpl), ([0b00110111], .scf), ([0b00111111], .ccf), ([0b00011000, 0xFE], .jrE8 0xFE),
    ([0b00100000, 0xFB], .jrCondE8 .nz 0xFB), ([0b00010000, 0xAB], .stop 0xAB)]
    : List (List Byte × Instr)).all decodesTo = true := by decide

/-- R101, R102. -/
theorem test_decode_blocks_1_2 : ([
    ([0b01110110], .halt), ([0b01000001], .ldR8R8 .b .c), ([0b01100110], .ldR8R8 .h .hlInd), ([0b01110111], .ldR8R8 .hlInd .a),
    ([0b10000110], .addAR8 .hlInd), ([0b10001011], .adcAR8 .e), ([0b10010011], .subAR8 .e), ([0b10011100], .sbcAR8 .h),
    ([0b10100101], .andAR8 .l), ([0b10101000], .xorAR8 .b), ([0b10110001], .orAR8 .c), ([0b10111010], .cpAR8 .d)]
    : List (List Byte × Instr)).all decodesTo = true := by decide

/-- R103. -/
theorem test_decode_block3 : ([
    ([0b11000110, 1], .addAImm8 1), ([0b11001110, 2], .adcAImm8 2), ([0b11010110, 3], .subAImm8 3), ([0b11011110, 4], .sbcAImm8 4),
    ([0b11100110, 5], .andAImm8 5), ([0b11101110, 6], .xorAImm8 6), ([0b11110110, 7], .orAImm8 7), ([0b11111110, 8], .cpAImm8 8),
    ([0b11011000], .retCond .c), ([0b11001001], .ret), ([0b11011001], .reti), ([0b11010010, 0x00, 0x40], .jpCondImm16 .nc 0x4000)]
    : List (List Byte × Instr)).all decodesTo = true := by decide
theorem test_decode_block3_transfers : ([
    ([0b11000011, 0x50, 0x01], .jpImm16 0x0150), ([0b11101001], .jpHl), ([0b11001100, 0x00, 0x20], .callCondImm16 .z 0x2000),
    ([0b11001101, 0x34, 0x12], .callImm16 0x1234), ([0b11111111], .rstTgt3 7), ([0b11010001], .popR16stk .de), ([0b11100101], .pushR16stk .hl)]
    : List (List Byte × Instr)).all decodesTo = true := by decide
theorem test_decode_block3_rest : ([
    ([0b11100010], .ldhCA), ([0b11100000, 0x44], .ldhImm8A 0x44), ([0b11101010, 0x00, 0xC3], .ldImm16A 0xC300), ([0b11110010], .ldhAC),
    ([0b11110000, 0xFF], .ldhAImm8 0xFF), ([0b11111010, 0x00, 0xC3], .ldAImm16 0xC300), ([0b11101000, 0x80], .addSpE8 0x80),
    ([0b11111000, 0xFE], .ldHlSpE8 0xFE), ([0b11111001], .ldSpHl), ([0b11110011], .di), ([0b11111011], .ei)]
    : List (List Byte × Instr)).all decodesTo = true := by decide

/-- R108. -/
theorem test_decode_undefined : ([
    ([0xD3], .undefinedD3), ([0xDB], .undefinedDB), ([0xDD], .undefinedDD), ([0xE3], .undefinedE3), ([0xE4], .undefinedE4),
    ([0xEB], .undefinedEB), ([0xEC], .undefinedEC), ([0xED], .undefinedED), ([0xF4], .undefinedF4), ([0xFC], .undefinedFC),
    ([0xFD], .undefinedFD)] : List (List Byte × Instr)).all decodesTo = true := by decide

/-- R104, R111. The prefix row's own word is the prefix with its second byte: the decoder gives the row of space `cb`. -/
theorem test_decode_cb : ([
    ([0b11001011, 0b00000000], .rlcR8 .b), ([0b11001011, 0b00001001], .rrcR8 .c), ([0b11001011, 0b00010010], .rlR8 .d),
    ([0b11001011, 0b00011011], .rrR8 .e), ([0b11001011, 0b00100100], .slaR8 .h), ([0b11001011, 0b00101101], .sraR8 .l),
    ([0b11001011, 0b00110110], .swapR8 .hlInd), ([0b11001011, 0b00111111], .srlR8 .a), ([0b11001011, 0b01111111], .bitBR8 7 .a),
    ([0b11001011, 0b10000110], .resBR8 0 .hlInd), ([0b11001011, 0b11011011], .setBR8 3 .e)]
    : List (List Byte × Instr)).all decodesTo = true := by decide
theorem test_encode_prefix_row : encode (.prefixCb 0x7F) = [0b11001011, 0x7F] := by decide

/-- A list that ends inside an instruction is not one. -/
theorem test_decode_truncated : decode [0xCD, 0x34] = .error (.truncated 0xCD) := rfl
theorem test_decode_empty : decode [] = .error .noOpcode := rfl

/-- The counts of section 2.12: 212 bytes of length 1, 27 of length 2, 17 of length 3. -/
theorem test_length_counts :
    ((List.range 256).countP fun n => opLength (BitVec.ofNat 8 n) == 1) = 212 ∧
    ((List.range 256).countP fun n => opLength (BitVec.ofNat 8 n) == 2) = 27 ∧
    ((List.range 256).countP fun n => opLength (BitVec.ofNat 8 n) == 3) = 17 := by decide +kernel

/-- Table words: bit 0 is the least significant bit of the first byte; bits from `nbits` up are zero. -/
theorem test_table_word : decodeTableWord 24 0x1234CD = some (.callImm16 0x1234) := rfl
theorem test_table_word_short : decodeTableWord 8 0xCD = some (.callImm16 0) := rfl
theorem test_table_word_cb : decodeTableWord 16 0x7FCB = some (.bitBR8 7 .a) := rfl
theorem test_with_fetch_word : fetchInstr (State.reset.withFetchWord 24 0x1234CD) = .callImm16 0x1234 := rfl
theorem test_with_fetch_word_runs :
    (match step (State.reset.withFetchWord 8 0x3C) with | .next t => t.a == 1 && t.pc == 0x0101 | _ => false) = true := by decide

/-! ### One step, from the reset state (section 2 of the vectors) -/

/-- Bytes stored from an address on. -/
def place (a : Word) : List Byte → State → State
  | [], s => s
  | v :: l, s => place (a + 1) l (s.write8 a v)

/-- The reset state with bytes at 0x0100, then changed by `f`. -/
def launch (bytes : List Byte) (f : State → State) : State := f (place 0x0100 bytes State.reset)

/-- One step from the launch state satisfies `p`. -/
def runs (bytes : List Byte) (f : State → State) (p : State → Bool) : Bool :=
  match step (launch bytes f) with
  | .next t => p t
  | _ => false

/-- The same with the bytes, and PC, at `a`. -/
def runsAt (a : Word) (bytes : List Byte) (f : State → State) (p : State → Bool) : Bool :=
  match step (f ((place a bytes State.reset).setPc a)) with
  | .next t => p t
  | _ => false

/-! Section 2.1 -/
theorem test_add : runs [0x80] (fun s => (s.setA 0x3A).setB 0xC6) (fun t => t.a == 0x00 && t.f == 0xB0) = true := by decide
theorem test_add_memory : runs [0x86] (fun s => ((s.setA 0x3C).setHl 0xC123).write8 0xC123 0x12) (fun t => t.a == 0x4E && t.f == 0x00) = true := by decide
theorem test_adc : runs [0x88] (fun s => ((s.setA 0xFF).setB 0xFF).setF 0x10) (fun t => t.a == 0xFF && t.f == 0x30) = true := by decide
theorem test_adc_self : runs [0x8F] (fun s => (s.setA 0x80).setF 0x10) (fun t => t.a == 0x01 && t.f == 0x10) = true := by decide
theorem test_sub : runs [0x90] (fun s => ((s.setA 0x3E).setB 0x40).setF 0x10) (fun t => t.a == 0xFE && t.f == 0x50) = true := by decide
theorem test_sbc : runs [0x98] (fun s => ((s.setA 0x00).setB 0xFF).setF 0x10) (fun t => t.a == 0x00 && t.f == 0xF0) = true := by decide
theorem test_sbc_self : runs [0x9F] (fun s => (s.setA 0x5C).setF 0x10) (fun t => t.a == 0xFF && t.f == 0x70) = true := by decide
theorem test_and : runs [0xA0] (fun s => ((s.setA 0x5A).setB 0xA5)) (fun t => t.a == 0x00 && t.f == 0xA0) = true := by decide
theorem test_xor : runs [0xA8] (fun s => ((s.setA 0xFF).setB 0x0F).setF 0x10) (fun t => t.a == 0xF0 && t.f == 0x00) = true := by decide
theorem test_or : runs [0xB0] (fun s => ((s.setA 0x5A).setB 0x0F).setF 0x10) (fun t => t.a == 0x5F && t.f == 0x00) = true := by decide
theorem test_cp : runs [0xB8] (fun s => (s.setA 0x3C).setB 0x40) (fun t => t.a == 0x3C && t.f == 0x50) = true := by decide
theorem test_cp_memory_log :
    stepAccesses (launch [0xBE] fun s => ((s.setA 0x3C).setHl 0xC123).write8 0xC123 0x3C) = [.read 0x0100 0xBE, .read 0xC123 0x3C] := by decide
theorem test_add_imm : runs [0xC6, 0x01] (fun s => s.setA 0x0F) (fun t => t.a == 0x10 && t.f == 0x20) = true := by decide
theorem test_adc_imm : runs [0xCE, 0x00] (fun s => (s.setA 0x0F).setF 0x10) (fun t => t.a == 0x10 && t.f == 0x20) = true := by decide
theorem test_sub_imm : runs [0xD6, 0x01] (fun s => s.setA 0x10) (fun t => t.a == 0x0F && t.f == 0x60) = true := by decide
theorem test_sbc_imm : runs [0xDE, 0x4F] (fun s => (s.setA 0x3B).setF 0x10) (fun t => t.a == 0xEB && t.f == 0x70) = true := by decide
theorem test_and_imm : runs [0xE6, 0x3F] (fun s => (s.setA 0x5A).setF 0x10) (fun t => t.a == 0x1A && t.f == 0x20) = true := by decide
theorem test_xor_imm : runs [0xEE, 0xFF] (fun s => (s.setA 0xFF).setF 0x10) (fun t => t.a == 0x00 && t.f == 0x80) = true := by decide
theorem test_or_imm : runs [0xF6, 0x00] (fun s => s.setF 0x10) (fun t => t.a == 0x00 && t.f == 0x80) = true := by decide
theorem test_cp_imm : runs [0xFE, 0x2F] (fun s => s.setA 0x3C) (fun t => t.f == 0x60 && t.pc == 0x0102) = true := by decide

/-! Section 2.2 -/
theorem test_inc : runs [0x04] (fun s => (s.setB 0x0F).setF 0x10) (fun t => t.b == 0x10 && t.f == 0x30) = true := by decide
theorem test_inc_memory : runs [0x34] (fun s => ((s.setHl 0xC000).write8 0xC000 0xFF).setF 0x10) (fun t => t.read8 0xC000 == 0x00 && t.f == 0xB0) = true := by decide
theorem test_dec : runs [0x25] (fun s => s.setF 0x10) (fun t => t.hl == 0xFF00 && t.f == 0x70) = true := by decide
theorem test_dec_memory_log :
    stepAccesses (launch [0x35] fun s => s.setHl 0xC000) = [.read 0x0100 0x35, .read 0xC000 0x00, .write 0xC000 0xFF] := by decide

/-! Section 2.3 -/
theorem test_inc16 : runs [0x03] (fun s => (s.setBc 0xFFFF).setF 0xF0) (fun t => t.bc == 0x0000 && t.f == 0xF0) = true := by decide
theorem test_dec16 : runs [0x3B] (fun s => s.setSp 0x0000) (fun t => t.sp == 0xFFFF) = true := by decide
theorem test_add_hl : runs [0x09] (fun s => ((s.setHl 0x0FFF).setBc 0x0001).setF 0xC0) (fun t => t.hl == 0x1000 && t.f == 0xA0) = true := by decide
theorem test_add_hl_self : runs [0x29] (fun s => s.setHl 0x8A23) (fun t => t.hl == 0x1446 && t.f == 0x30) = true := by decide
theorem test_add_sp : runs [0xE8, 0xFF] (fun s => (s.setSp 0x0000).setF 0xF0) (fun t => t.sp == 0xFFFF && t.f == 0x00) = true := by decide
theorem test_ld_hl_sp : runs [0xF8, 0xF1] (fun s => s.setSp 0x000F) (fun t => t.hl == 0x0000 && t.f == 0x30) = true := by decide

/-! Section 2.4 -/
theorem test_rlca : runs [0x07] (fun s => s.setA 0x85) (fun t => t.a == 0x0B && t.f == 0x10) = true := by decide
theorem test_rrca : runs [0x0F] (fun s => (s.setA 0x01).setF 0x80) (fun t => t.a == 0x80 && t.f == 0x10) = true := by decide
theorem test_rla : runs [0x17] (fun s => (s.setA 0x95).setF 0x10) (fun t => t.a == 0x2B && t.f == 0x10) = true := by decide
theorem test_rra : runs [0x1F] (fun s => s.setA 0x01) (fun t => t.a == 0x00 && t.f == 0x10) = true := by decide
theorem test_rlc : runs [0xCB, 0x00] (fun s => s.setF 0x10) (fun t => t.b == 0x00 && t.f == 0x80) = true := by decide
theorem test_rrc : runs [0xCB, 0x09] (fun s => s.setC 0x01) (fun t => t.c == 0x80 && t.f == 0x10) = true := by decide
theorem test_rl : runs [0xCB, 0x12] (fun s => (s.setD 0x11).setF 0x10) (fun t => t.d == 0x23 && t.f == 0x00) = true := by decide
theorem test_rr_memory : runs [0xCB, 0x1E] (fun s => ((s.setHl 0xC000).write8 0xC000 0x01).setF 0x10) (fun t => t.read8 0xC000 == 0x80 && t.f == 0x10) = true := by decide
theorem test_sla : runs [0xCB, 0x24] (fun s => s.setH 0xFF) (fun t => t.h == 0xFE && t.f == 0x10) = true := by decide
theorem test_sra : runs [0xCB, 0x2D] (fun s => s.setL 0x8A) (fun t => t.l == 0xC5 && t.f == 0x00) = true := by decide
theorem test_swap : runs [0xCB, 0x37] (fun s => (s.setA 0xF1).setF 0x10) (fun t => t.a == 0x1F && t.f == 0x00) = true := by decide
theorem test_srl : runs [0xCB, 0x38] (fun s => (s.setB 0x80).setF 0x10) (fun t => t.b == 0x40 && t.f == 0x00) = true := by decide

/-! Section 2.5 -/
theorem test_bit : runs [0xCB, 0x40] (fun s => (s.setB 0xFE).setF 0xD0) (fun t => t.f == 0xB0 && t.b == 0xFE) = true := by decide
theorem test_res : runs [0xCB, 0xB8] (fun s => s.setB 0x80) (fun t => t.b == 0x00 && t.f == 0x00) = true := by decide
theorem test_set_memory : runs [0xCB, 0xFE] (fun s => s.setHl 0xC000) (fun t => t.read8 0xC000 == 0x80 && t.f == 0x00) = true := by decide
theorem test_res_memory_log :
    stepAccesses (launch [0xCB, 0x86] fun s => (s.setHl 0xC000).write8 0xC000 0xFF) =
      [.read 0x0100 0xCB, .read 0x0101 0x86, .read 0xC000 0xFF, .write 0xC000 0xFE] := by decide
/-- The prefix row run as one instruction (section 2.5, RES 0, A). -/
theorem test_prefix_row :
    (match exec (.prefixCb 0x87) (launch [] fun s => (s.setA 0xFF).setF 0xF0) with
      | .next t => t.a == 0xFE && t.pc == 0x0102 | _ => false) = true := by decide

/-! Section 2.6 -/
theorem test_ld_r8_r8 : runs [0x66] (fun s => (s.setHl 0xC010).write8 0xC010 0x12) (fun t => t.hl == 0x1210) = true := by decide
theorem test_ld_memory_h : runs [0x74] (fun s => s.setHl 0xC010) (fun t => t.read8 0xC010 == 0xC0) = true := by decide
theorem test_ld_r8_imm8 : runs [0x36, 0x77] (fun s => s.setHl 0xC020) (fun t => t.read8 0xC020 == 0x77 && t.pc == 0x0102) = true := by decide
theorem test_ld_r16_imm16 : runs [0x01, 0x34, 0x12] id (fun t => t.bc == 0x1234 && t.pc == 0x0103) = true := by decide
theorem test_ld_r16mem_a : runs [0x32] (fun s => s.setA 0x01) (fun t => t.read8 0x0000 == 0x01 && t.hl == 0xFFFF) = true := by decide
theorem test_ld_a_r16mem : runs [0x2A] (fun s => (s.setHl 0xC1FF).write8 0xC1FF 0x5F) (fun t => t.a == 0x5F && t.hl == 0xC200) = true := by decide
theorem test_ld_imm16_sp : runs [0x08, 0xFF, 0xFF] (fun s => s.setSp 0x1234) (fun t => t.read8 0xFFFF == 0x34 && t.read8 0x0000 == 0x12) = true := by decide
theorem test_ld_sp_hl : runs [0xF9] (fun s => s.setHl 0xCFFF) (fun t => t.sp == 0xCFFF) = true := by decide
theorem test_ld_imm16_a : runs [0xEA, 0x00, 0xC3] (fun s => s.setA 0x9C) (fun t => t.read8 0xC300 == 0x9C) = true := by decide
theorem test_ld_a_imm16 : runs [0xFA, 0x00, 0xC3] (fun s => s.write8 0xC300 0x3D) (fun t => t.a == 0x3D) = true := by decide
theorem test_ldh_c_a : runs [0xE2] (fun s => (s.setA 0x77).setC 0x80) (fun t => t.read8 0xFF80 == 0x77 && t.pc == 0x0101) = true := by decide
theorem test_ldh_imm8_a : runs [0xE0, 0x44] (fun s => s.setA 0x91) (fun t => t.read8 0xFF44 == 0x91 && t.pc == 0x0102) = true := by decide
theorem test_ldh_a_c : runs [0xF2] (fun s => (s.setC 0x80).write8 0xFF80 0x21) (fun t => t.a == 0x21) = true := by decide
theorem test_ldh_a_imm8 : runs [0xF0, 0xFF] (fun s => s.write8 0xFFFF 0x1F) (fun t => t.a == 0x1F) = true := by decide

/-! Section 2.7 -/
theorem test_jr : runsAt 0xFFF0 [0x18, 0x7F] id (fun t => t.pc == 0x0071) = true := by decide
theorem test_jr_back : runsAt 0x0000 [0x18, 0x80] id (fun t => t.pc == 0xFF82) = true := by decide
theorem test_jr_cond : runsAt 0x0210 [0x20, 0xFB] id (fun t => t.pc == 0x020D) = true := by decide
theorem test_jr_cond_not_taken : runsAt 0x0200 [0x38, 0x10] (fun s => s.setF 0xE0) (fun t => t.pc == 0x0202) = true := by decide
theorem test_jp : runs [0xC3, 0x50, 0x01] id (fun t => t.pc == 0x0150) = true := by decide
theorem test_jp_cond : runs [0xCA, 0x00, 0x40] (fun s => s.setF 0x70) (fun t => t.pc == 0x0103) = true := by decide
theorem test_jp_hl : runs [0xE9] (fun s => s.setHl 0x4000) (fun t => t.pc == 0x4000) = true := by decide
theorem test_call : runsAt 0x0150 [0xCD, 0x00, 0x20] (fun s => s.setSp 0xD000)
    (fun t => t.pc == 0x2000 && t.sp == 0xCFFE && t.read8 0xCFFE == 0x53 && t.read8 0xCFFF == 0x01) = true := by decide
theorem test_call_overwrites_itself : runsAt 0xFFFD [0xCD, 0x00, 0x20] (fun s => s.setSp 0x0001)
    (fun t => t.pc == 0x2000 && t.sp == 0xFFFF && t.read8 0xFFFF == 0x00) = true := by decide
theorem test_call_cond : runsAt 0x0150 [0xDC, 0x00, 0x20] (fun s => (s.setSp 0xD000).setF 0x10) (fun t => t.pc == 0x2000 && t.sp == 0xCFFE) = true := by decide
theorem test_call_cond_not_taken : runsAt 0x0150 [0xCC, 0x00, 0x20] (fun s => s.setSp 0xD000) (fun t => t.pc == 0x0153 && t.sp == 0xD000) = true := by decide
theorem test_ret : runsAt 0x2000 [0xC9] (fun s => (place 0xFFFF [0x34, 0x12] s).setSp 0xFFFF) (fun t => t.pc == 0x1234 && t.sp == 0x0001) = true := by decide
theorem test_ret_cond : runsAt 0x2000 [0xC8] (fun s => ((place 0xCFFE [0x53, 0x01] s).setSp 0xCFFE).setF 0x80) (fun t => t.pc == 0x0153 && t.sp == 0xD000) = true := by decide
theorem test_ret_cond_not_taken : runsAt 0x2000 [0xD8] (fun s => (s.setSp 0xCFFE).setF 0x80) (fun t => t.pc == 0x2001 && t.sp == 0xCFFE) = true := by decide
theorem test_reti : runsAt 0x0040 [0xD9] (fun s => (place 0xCFFE [0x53, 0x01] s).setSp 0xCFFE) (fun t => t.pc == 0x0153 && t.ime) = true := by decide
theorem test_rst : runsAt 0x0234 [0xEF] id (fun t => t.pc == 0x0028 && t.sp == 0xFFFC && t.read8 0xFFFC == 0x35 && t.read8 0xFFFD == 0x02) = true := by decide

/-! Section 2.8 -/
theorem test_push : runs [0xE5] (fun s => (s.setHl 0xABCD).setSp 0x0001) (fun t => t.sp == 0xFFFF && t.read8 0xFFFF == 0xCD && t.read8 0x0000 == 0xAB) = true := by decide
theorem test_pop_af : runs [0xF1] (fun s => (place 0xFFFC [0xFF, 0x12] s).setSp 0xFFFC) (fun t => t.af == 0x12F0 && t.sp == 0xFFFE) = true := by decide

/-! Section 2.9 -/
theorem test_daa : runs [0x27] (fun s => s.setA 0x9A) (fun t => t.a == 0x00 && t.f == 0x90) = true := by decide
theorem test_daa_subtract : runs [0x27] (fun s => (s.setA 0xFA).setF 0x50) (fun t => t.a == 0x9A && t.f == 0x50) = true := by decide
theorem test_cpl : runs [0x2F] (fun s => (s.setA 0x35).setF 0x80) (fun t => t.a == 0xCA && t.f == 0xE0) = true := by decide
theorem test_scf : runs [0x37] (fun s => s.setF 0xE0) (fun t => t.f == 0x90) = true := by decide
theorem test_ccf : runs [0x3F] (fun s => s.setF 0xF0) (fun t => t.f == 0x80) = true := by decide

/-! Section 2.10 -/
theorem test_nop_wraps : runsAt 0xFFFF [0x00] id (fun t => t.pc == 0x0000) = true := by decide
theorem test_ei : runs [0xFB] id (fun t => !t.ime && t.imePending == 1 && t.pc == 0x0101) = true := by decide
theorem test_ei_twice : runs [0xFB] (fun s => s.setImePending 1) (fun t => t.ime && t.imePending == 0) = true := by decide
theorem test_di_cancels : runs [0xF3] (fun s => (s.setImePending 1).setIme true) (fun t => !t.ime && t.imePending == 0) = true := by decide
theorem test_halt_after_ei : runs [0x76] (fun s => s.setImePending 1) (fun t => t.halted && t.ime && t.imePending == 0 && t.pc == 0x0101) = true := by decide
theorem test_stop : runs [0x10, 0xAB] id (fun t => t.stopped && t.pc == 0x0102) = true := by decide
theorem test_undefined_faults :
    (match step (launch [0xDD] id) with | .fault r => decide (r = .undefinedOpcode 0xDD 0x0100) | _ => false) = true := by decide
theorem test_undefined_reported :
    (match stepReporting (launch [0xDD] fun s => s.setImePending 1) with
      | .next (t, r) => t.pc == 0x0101 && t.ime && r == some (0xDD, 0x0100) | _ => false) = true := by decide
theorem test_fetch_wraps : runsAt 0xFFFF [0x01, 0x34, 0x12] id (fun t => t.bc == 0x1234 && t.pc == 0x0002) = true := by decide

/-! Section 2.11 -/
theorem test_interrupt :
    (match control (.requestInterrupt 4) ((launch [] fun s => s.setIme true).setPc 0x1234) with
      | .next t => t.pc == 0x0060 && t.sp == 0xFFFC && t.read8 0xFFFC == 0x34 && t.read8 0xFFFD == 0x12 && !t.ime | _ => false) = true := by decide
theorem test_interrupt_while_stopped :
    (match control (.requestInterrupt 0) (launch [] fun s => (s.setIme true).setStopped true) with
      | .next t => t.pc == 0x0040 && t.stopped | _ => false) = true := by decide
theorem test_interrupt_wakes :
    (match control (.requestInterrupt 1) (launch [] fun s => s.setHalted true) with
      | .next t => !t.halted && t.pc == 0x0100 && t.sp == 0xFFFE | _ => false) = true := by decide

/-! spec/70_reset_and_hazards.md R340, and the canonical form of memory -/
theorem test_reset : State.reset.pc = 0x0100 ∧ State.reset.sp = 0xFFFE ∧ Memory.wf State.reset.mem = true := by decide
theorem test_memory_canonical : ((State.reset.write8 0xC000 1).write8 0x0005 2).write8 0xC000 0 = State.reset.write8 0x0005 2 := by decide

/-! ### Witnesses: a state and operands that meet the hypotheses of each statement -/

/-- Code at 0x0100. -/
abbrev at100 (bytes : List Byte) : State := launch bytes id

theorem witness_DecodeEncodeRoundTrip : (Instr.ldR8R8 .hlInd .b).wellFormed = true ∧ (Instr.setBR8 7 .a).wellFormed = true := ⟨rfl, rfl⟩
theorem witness_EncodeDecodeRoundTrip :
    decode [0xFF, 0xAA] = .ok (.rstTgt3 7, [0xAA]) ∧ decode [0xCB, 0xFF] = .ok (.setBR8 7 .a, []) ∧
    decode [0xDC, 0xFF, 0xFF] = .ok (.callCondImm16 .c 0xFFFF, []) := ⟨rfl, rfl, rfl⟩
theorem witness_UndefinedOpcodesAreTheEleven : (Instr.undefinedFD, (0xFD : Byte)) ∈ undefinedRows := by decide
theorem witness_LengthByFirstByteAlone : opLength 0x00 = 1 ∧ opLength 0xFF = 1 ∧ opLength 0x06 = 2 ∧ opLength 0xFE = 2 := by decide
theorem witness_StepRunsDecodedInstruction :
    State.reset.halted = false ∧ State.reset.stopped = false ∧
    decode [State.reset.read8 State.reset.pc, State.reset.read8 (State.reset.pc + 1), State.reset.read8 (State.reset.pc + 2)] = .ok (.nop, [0x00, 0x00]) :=
  ⟨rfl, rfl, rfl⟩
theorem witness_IdleStepsChangeNothing : (State.reset.setHalted true).halted = true ∧ (State.reset.setStopped true).stopped = true := ⟨rfl, rfl⟩

/-- A step goes on from code at 0x0100 that decodes to `i`, with ime_pending `n`. -/
def steps (bytes : List Byte) (n : Nat) (i : Instr) : Prop :=
  let s := (at100 bytes).setImePending n
  s.halted = false ∧ s.stopped = false ∧ (∃ t, step s = .next t) ∧ fetchInstr s = i ∧ s.imePending = n

theorem witness_ImeStateMachine_ei : steps [0xFB] 0 .ei ∧ steps [0xFB] 1 .ei := ⟨⟨rfl, rfl, ⟨_, rfl⟩, rfl, rfl⟩, rfl, rfl, ⟨_, rfl⟩, rfl, rfl⟩
theorem witness_ImeStateMachine_di : steps [0xF3] 1 .di := ⟨rfl, rfl, ⟨_, rfl⟩, rfl, rfl⟩
theorem witness_ImeStateMachine_reti : steps [0xD9] 0 .reti := ⟨rfl, rfl, ⟨_, rfl⟩, rfl, rfl⟩
theorem witness_ImeStateMachine_other : steps [0x00] 0 .nop ∧ steps [0x00] 1 .nop := ⟨⟨rfl, rfl, ⟨_, rfl⟩, rfl, rfl⟩, rfl, rfl, ⟨_, rfl⟩, rfl, rfl⟩

theorem witness_EiTakesEffect_di : ∃ t u, step (at100 [0xFB, 0xF3]) = .next t ∧ step t = .next u ∧ fetchInstr t = .di := ⟨_, _, rfl, rfl, rfl⟩
theorem witness_EiTakesEffect_nop :
    (at100 [0xFB]).halted = false ∧ (at100 [0xFB]).stopped = false ∧ (at100 [0xFB]).imePending = 0 ∧ fetchInstr (at100 [0xFB]) = .ei ∧
    ∃ t u, step (at100 [0xFB]) = .next t ∧ step t = .next u ∧ fetchInstr t = .nop := ⟨rfl, rfl, rfl, rfl, _, _, rfl, rfl, rfl⟩
theorem witness_NothingElseRaises : (at100 [0xD2]).read8 (at100 [0xD2]).pc ∉ undefinedBytes ∧ (at100 [0xFE]).read8 (at100 [0xFE]).pc ∉ undefinedBytes := by decide
theorem witness_UndefinedOpcodesFault :
    (at100 [0xD3]).halted = false ∧ (at100 [0xD3]).stopped = false ∧ (at100 [0xD3]).read8 (at100 [0xD3]).pc ∈ undefinedBytes ∧
    (at100 [0xFD]).read8 (at100 [0xFD]).pc ∈ undefinedBytes := by decide
theorem witness_ReportingStepGoesOn :
    (at100 [0xD3]).imePending = 0 ∧ ((at100 [0xFD]).setImePending 1).imePending ≠ 0 ∧
    ((at100 [0xFD]).setImePending 1).read8 ((at100 [0xFD]).setImePending 1).pc ∈ undefinedBytes := by decide
theorem witness_ReportingStepGoesOn_next : ∃ t, step (at100 [0x00]) = .next t := ⟨_, rfl⟩
theorem witness_PcAdvancesByLength : transfers (.ldR16Imm16 .bc 0) = false ∧ ∃ t, exec (.ldR16Imm16 .bc 0) (State.reset.setPc 0xFFFF) = .next t := ⟨rfl, _, rfl⟩

theorem launch_inv (n : Nat) (h : n ≤ 1) : ((at100 [0xFB]).setImePending n).Inv :=
  ⟨rfl, h, by simp [launch, place, State.reset, State.resetWith], fun hi => by
    simp [launch, place, State.reset, State.resetWith, State.idle, State.setImePending, State.write8, State.setMem] at hi⟩
theorem witness_StepKeepsInvariant : ((at100 [0xFB]).setImePending 1).Inv ∧ ∃ t, step ((at100 [0xFB]).setImePending 1) = .next t :=
  ⟨launch_inv 1 (by decide), _, rfl⟩
theorem witness_ReachableStatesAreLegal : ∃ t, control (.requestInterrupt 0) State.reset = .next t ∧ Reachable t :=
  ⟨_, rfl, .control (.requestInterrupt 0) State.reset _ (.reset Config.defaultInit) rfl rfl⟩
theorem witness_AccessorsChangeOneThing : Flag.z ≠ Flag.c ∧ Reg16.hl ≠ Reg16.sp ∧ Reg16.hl ≠ Reg16.pc ∧ Reg8.b ∉ halvesOfReg16 .hl := by decide
theorem witness_AccessorsChangeOneThing_pending : (0 : Nat) ≤ 1 ∧ (1 : Nat) ≤ 1 ∧ (1 : Nat) < 2 := by decide
theorem witness_MemoryEffectIsTheListedWrites : ∃ t, exec (.pushR16stk .bc) State.reset = .next t := ⟨_, rfl⟩
theorem witness_AccessOrderWithinStep : (at100 [0x08, 0xFF, 0xFF]).halted = false ∧ (at100 [0x08, 0xFF, 0xFF]).stopped = false := ⟨rfl, rfl⟩
theorem witness_StoreIsSeenByNextFetch : ∃ t, exec (.ldImm16A (State.reset.pc + 3)) State.reset = .next t := ⟨_, rfl⟩
/-- A store, and a store of two bytes, into each byte of the next instruction. -/
theorem witness_StoreIsSeenByNextFetch_each_byte :
    let s := State.reset
    BusAccess.write (s.pc + 3) 0 ∈ dataAccesses (.ldImm16A 0x0103) s ∧ BusAccess.write (s.pc + 4) 0xFF ∈ dataAccesses (.ldImm16Sp 0x0103) s ∧
    BusAccess.write (s.pc + 5) 0 ∈ dataAccesses (.ldImm16A 0x0105) s ∧ ∃ t, exec (.ldImm16Sp 0x0103) s = .next t ∧ t.pc = 0x0103 :=
  ⟨by decide, by decide, by decide, _, rfl, rfl⟩
/-- A step whose push writes the bytes at its own address and after it. -/
theorem witness_StoreIsSeenByNextFetch_step :
    let s := (at100 [0xC5]).setSp 0x0102
    s.halted = false ∧ s.stopped = false ∧ BusAccess.write 0x0100 0 ∈ stepAccesses s ∧ ∃ t, step s = .next t := ⟨rfl, rfl, by decide, _, rfl⟩
theorem witness_IncDecByte_memory : (∃ t, exec (.incR8 .hlInd) State.reset = .next t) ∧ ∃ t, exec (.decR8 .hlInd) State.reset = .next t :=
  ⟨⟨_, rfl⟩, _, rfl⟩

/-- Each condition is taken in some state and not in another. -/
theorem witness_conditions : Taken .nz State.reset ∧ ¬ Taken .z State.reset ∧ Taken .nc State.reset ∧ ¬ Taken .c State.reset := ⟨rfl, nofun, rfl, nofun⟩
theorem witness_conditions_set :
    let s := State.reset.setF 0x90
    ¬ Taken .nz s ∧ Taken .z s ∧ ¬ Taken .nc s ∧ Taken .c s := ⟨nofun, rfl, nofun, rfl⟩

/-- Scenario 5 of the source: CALL at 0x8000, RET at its target. -/
def scenario5 : State := (place 0x1234 [0xC9] (place 0x8000 [0xCD, 0x34, 0x12] State.reset)).setPc 0x8000
theorem witness_CallThenRetReturns :
    scenario5.halted = false ∧ scenario5.stopped = false ∧ fetchInstr scenario5 = .callImm16 0x1234 ∧
    ∃ t, step scenario5 = .next t ∧ fetchInstr t = .ret := ⟨rfl, rfl, rfl, _, rfl, rfl⟩
theorem witness_DaaAdjusts : State.reset.flags.n = false ∧ (State.reset.setF 0x40).flags.n = true := ⟨rfl, rfl⟩
theorem witness_DaaGivesDecimalSumAndDifference : (0 : Nat) < 100 ∧ (99 : Nat) < 100 := by decide
theorem witness_RequestInterrupt : (4 : Nat) ≤ 4 ∧ (4 : Nat) < 5 ∧ (State.reset.setIme true).ime = true ∧ State.reset.ime = false := by decide
theorem witness_RetiUndoesDispatch : (State.reset.setIme true).ime = true ∧ ∃ t, control (.requestInterrupt 4) (State.reset.setIme true) = .next t := ⟨rfl, _, rfl⟩
theorem witness_FlagsUnchanged : writesNoFlag (.popR16stk .hl) = true ∧ ∃ t, exec (.popR16stk .hl) State.reset = .next t := ⟨rfl, _, rfl⟩
theorem witness_FlagsUnchanged_columns :
    (∃ t, exec (.bitBR8 7 .hlInd) State.reset = .next t) ∧ (∃ t, exec (.addHlR16 .sp) State.reset = .next t) ∧ ∃ t, exec .daa State.reset = .next t :=
  ⟨⟨_, rfl⟩, ⟨_, rfl⟩, _, rfl⟩
theorem witness_SubtractAndHalfCarry : Instr.adcAR8 .a ≠ .daa ∧ Instr.adcAR8 .a ≠ .pushR16stk .af ∧ ∃ t, exec (.adcAR8 .a) State.reset = .next t :=
  ⟨nofun, nofun, _, rfl⟩
theorem witness_CycleCounts_same_conditions : ∀ cc, Taken cc State.reset ↔ Taken cc (State.reset.setA 1) := fun cc => by cases cc <;> exact Iff.rfl
theorem witness_CycleCounts_unconditional :
    ∀ cc e8 n, Instr.nop ≠ .jrCondE8 cc e8 ∧ Instr.nop ≠ .jpCondImm16 cc n ∧ Instr.nop ≠ .callCondImm16 cc n ∧ Instr.nop ≠ .retCond cc :=
  fun _ _ _ => ⟨nofun, nofun, nofun, nofun⟩
theorem witness_CycleCounts_operands :
    regOf .a ≠ none ∧ regOf .b ≠ none ∧ regOf .hlInd = none ∧ Instr.setBR8 7 .hlInd ∈ cbModifies 7 .hlInd ∧ Instr.rlcR8 .b ∈ cbModifies 0 .b := by decide

end Sys2Proof.Tests
end

/-! PROOFS. Family 10_state: the register views (R21) and the layout and mask of F (R25, R26). -/

namespace Sys2Proof.Machine

/-! ### F as a byte -/

/-- R25 for every bit: the four flags from bit 7 down, and zeros below them. -/
theorem Flags.getLsbD_toByte (f : Flags) (i : Nat) :
    f.toByte.getLsbD i = match i with | 7 => f.z | 6 => f.n | 5 => f.h | 4 => f.c | _ => false := by
  match i with
  | 0 | 1 | 2 | 3 | 4 | 5 | 6 | 7 => simp only [Flags.toByte, BitVec.getLsbD_append]; simp
  | i + 8 => exact BitVec.getLsbD_of_ge _ _ (Nat.le_add_left 8 i)

theorem Flags.toByte_and_lowNibble (f : Flags) : f.toByte &&& 0x0F = 0 := by
  apply BitVec.eq_of_getLsbD_eq
  intro i hi
  rw [BitVec.getLsbD_and, Flags.getLsbD_toByte]
  match i with
  | 0 | 1 | 2 | 3 | 4 | 5 | 6 | 7 => simp

/-- R26: of a byte written to F the high nibble is kept. -/
@[simp] theorem Flags.toByte_ofByte (v : Byte) : (Flags.ofByte v).toByte = v &&& 0xF0 := by
  apply BitVec.eq_of_getLsbD_eq
  intro i hi
  rw [Flags.getLsbD_toByte, BitVec.getLsbD_and]
  match i with
  | 0 | 1 | 2 | 3 | 4 | 5 | 6 | 7 => simp [Flags.ofByte]

variable (s : State)

@[simp] theorem State.f_setF (v : Byte) : (s.setF v).f = v &&& 0xF0 := Flags.toByte_ofByte v
@[simp] theorem State.f_setAf (w : Word) : (s.setAf w).f = loByte w &&& 0xF0 := (s.setA (hiByte w)).f_setF (loByte w)
@[simp] theorem State.f_resetWith (init : Config.Init) : (State.resetWith init).f = init.f &&& 0xF0 := Flags.toByte_ofByte init.f

/-! ### The halves of the 16-bit views -/

@[simp] theorem State.setAf_a (w : Word) : (s.setAf w).a = hiByte w := rfl
@[simp] theorem State.setBc_b (w : Word) : (s.setBc w).b = hiByte w := rfl
@[simp] theorem State.setBc_c (w : Word) : (s.setBc w).c = loByte w := rfl
@[simp] theorem State.setDe_d (w : Word) : (s.setDe w).d = hiByte w := rfl
@[simp] theorem State.setDe_e (w : Word) : (s.setDe w).e = loByte w := rfl
@[simp] theorem State.setHl_h (w : Word) : (s.setHl w).h = hiByte w := rfl
@[simp] theorem State.setHl_l (w : Word) : (s.setHl w).l = loByte w := rfl

@[simp] theorem State.bc_setB_setC (hi lo : Byte) : ((s.setB hi).setC lo).bc = joinBytes hi lo := rfl
@[simp] theorem State.de_setD_setE (hi lo : Byte) : ((s.setD hi).setE lo).de = joinBytes hi lo := rfl
@[simp] theorem State.hl_setH_setL (hi lo : Byte) : ((s.setH hi).setL lo).hl = joinBytes hi lo := rfl

@[simp] theorem State.af_setA_setF (hi lo : Byte) : ((s.setA hi).setF lo).af = joinBytes hi (lo &&& 0xF0) :=
  congrArg (joinBytes hi) ((s.setA hi).f_setF lo)

theorem loByte_eq_ofNat (w : Word) : loByte w = BitVec.ofNat 8 (w.toNat % 256) := by
  apply BitVec.eq_of_toNat_eq
  simp [loByte_toNat]

@[simp] theorem loByte_read16 (x : Word) : loByte (s.read16 x) = s.read8 x := loByte_joinBytes ..
@[simp] theorem hiByte_read16 (x : Word) : hiByte (s.read16 x) = s.read8 (x + 1) := hiByte_joinBytes ..

end Sys2Proof.Machine

namespace Sys2Proof.Proofs

open Sys2Proof.Machine Sys2Proof.Claims

/-- R26 for POP AF: A is the byte above the one SP points to, F the masked byte at SP. -/
theorem popAf_completes (s : State) :
    Completes (.popR16stk .af) s fun t => t.reg8 .a = s.read8 (s.sp + 1) ∧ t.reg8 .f = s.read8 s.sp &&& 0xF0 := by
  refine ⟨(s.pop16.2.setAf (s.read16 s.sp)).advance 1, rfl, ?_, ?_⟩
  · exact hiByte_read16 s s.sp
  · calc (s.pop16.2.setAf (s.read16 s.sp)).f
      _ = loByte (s.read16 s.sp) &&& 0xF0 := State.f_setAf _ _
      _ = s.read8 s.sp &&& 0xF0 := by rw [loByte_read16]

/-- Settles O20: a pair is `joinBytes` of its halves, a half is `hiByte` or `loByte` of its pair, and F is masked on its way in. -/
theorem registerViewsAlias : Obligations.RegisterViewsAlias := by
  unfold Obligations.RegisterViewsAlias
  constructor
  · intro x y s
    simp [State.setReg8, State.reg16, joinBytes_toNat]
  · intro w s
    have hf : (s.setAf w).f = BitVec.ofNat 8 (w.toNat % 256) &&& 0xF0 := by rw [State.f_setAf, loByte_eq_ofNat]
    simp [State.setReg16, State.reg8, hiByte_toNat, loByte_toNat, hf]

/-- Settles O21: F is the byte of its four flags, and every writer stores `Flags.ofByte` of its byte, which drops the low nibble. -/
theorem flagRegisterLayoutAndMask : Obligations.FlagRegisterLayoutAndMask := by
  unfold Obligations.FlagRegisterLayoutAndMask
  refine ⟨fun s => ⟨?low, ?z, ?n, ?h, ?c⟩, State.f_setF, fun s w => ⟨s.setAf_a w, s.f_setAf w⟩, popAf_completes, State.f_resetWith⟩
  case low => exact s.flags.toByte_and_lowNibble
  case z => exact s.flags.getLsbD_toByte 7
  case n => exact s.flags.getLsbD_toByte 6
  case h => exact s.flags.getLsbD_toByte 5
  case c => exact s.flags.getLsbD_toByte 4

end Sys2Proof.Proofs

/-! PROOFS. Family 20_memory: the stack primitives (R66, R67). -/

namespace Sys2Proof.Proofs

open Sys2Proof.Machine Sys2Proof.Claims

/-! ### A word in memory -/

/-- R63: the word read at an address is the little-endian value of its two bytes. -/
theorem read16_toNat (s : State) (x : Word) : (s.read16 x).toNat = wordAt x s := by
  unfold State.read16 wordAt
  rw [joinBytes_toNat]
  omega

/-- R64: a 16-bit write stores the low byte at `x`, the high byte at `x + 1` and nothing else. -/
theorem stored16_write16 (s : State) (x v : Word) : Stored16 x v s (s.write16 x v) := by
  have hne : x ≠ x + 1 := by simp
  refine ⟨?low, ?high, ?others⟩
  case low => rw [State.read8_write16, if_neg hne, if_pos rfl, loByte_toNat]
  case high => rw [State.read8_write16, if_pos rfl, hiByte_toNat]
  case others =>
    intro y hy
    obtain ⟨hlo, hhi⟩ : y ≠ x ∧ y ≠ x + 1 := by simpa using hy
    rw [State.read8_write16, if_neg hhi, if_neg hlo]

/-! ### `State.push16` and `State.pop16`: memory and the frame -/

/-- R66: the word pushed is stored at the new SP. -/
theorem stored16_push16 (s : State) (v : Word) : Stored16 (s.sp - 2) v s (s.push16 v) :=
  stored16_write16 (s.setSp (s.sp - 2)) (s.sp - 2) v

theorem sameRegs_push16 (s : State) (v : Word) : SameRegs [] s (s.push16 v) := by
  intro r _
  cases r <;> rfl

theorem sameControl_push16 (s : State) (v : Word) : SameControl s (s.push16 v) :=
  ⟨s.push16_ime v, s.push16_imePending v, s.push16_halted v, s.push16_stopped v⟩

theorem sameRegs_pop16 (s : State) : SameRegs [] s s.pop16.2 := by
  intro r _
  cases r <;> rfl

theorem sameControl_pop16 (s : State) : SameControl s s.pop16.2 :=
  ⟨s.pop16_snd_ime, s.pop16_snd_imePending, s.pop16_snd_halted, s.pop16_snd_stopped⟩

theorem sameMem_pop16 (s : State) : SameMem s s.pop16.2 :=
  fun x => congrArg (Memory.read · x.toNat) s.pop16_snd_mem

/-- Settles O23: push16 is a 16-bit write at the lowered SP, pop16 a 16-bit read at SP; both leave the rest of the state. -/
theorem stackPrimitives : Obligations.StackPrimitives := by
  unfold Obligations.StackPrimitives
  constructor
  · intro v s
    exact ⟨s.push16_sp v, stored16_push16 s v, sameRegs_push16 s v, sameControl_push16 s v, s.push16_pc v⟩
  · intro s
    exact ⟨read16_toNat s s.sp, s.pop16_snd_sp, sameRegs_pop16 s, sameMem_pop16 s, sameControl_pop16 s, s.pop16_snd_pc⟩

end Sys2Proof.Proofs

/-! PROOFS. Family 30_encoding: the undefined opcodes (R108). -/

namespace Sys2Proof

/-- The eleven undefined opcodes as a test that computes on the constructor; `mem_undefinedRows_iff` ties it to R108's rows. -/
def Instr.isUndefined : Instr → Bool
  | .undefinedD3 | .undefinedDB | .undefinedDD | .undefinedE3 | .undefinedE4 | .undefinedEB | .undefinedEC | .undefinedED
  | .undefinedF4 | .undefinedFC | .undefinedFD => true
  | _ => false

theorem mem_undefinedRows_iff (i : Instr) : i ∈ Claims.undefinedRows.map Prod.fst ↔ i.isUndefined = true := by
  cases i <;> simp [Claims.undefinedRows, Instr.isUndefined]

/-- R108: the undefined bytes are all in block 3. -/
theorem fieldBlock_of_mem_undefinedBytes : ∀ op ∈ Claims.undefinedBytes, fieldBlock op = 3 := by decide

/-! ### The operation groups, the CB space and blocks 0 to 2 hold no undefined opcode -/

@[simp] theorem isUndefined_aluR8 (o : AluOp) (s : R8) : (aluR8 o s).isUndefined = false := by cases o <;> rfl
@[simp] theorem isUndefined_aluImm8 (o : AluOp) (n : Byte) : (aluImm8 o n).isUndefined = false := by cases o <;> rfl
@[simp] theorem isUndefined_rotR8 (o : RotOp) (s : R8) : (rotR8 o s).isUndefined = false := by cases o <;> rfl

@[simp] theorem isUndefined_decodeCb (cb : Byte) : (decodeCb cb).isUndefined = false := by
  unfold decodeCb
  split
  case h_1 => exact isUndefined_rotR8 ..
  all_goals rfl

@[simp] theorem isUndefined_decodeBlock0 (op b1 b2 : Byte) : (decodeBlock0 op b1 b2).isUndefined = false := by
  unfold decodeBlock0
  repeat' split
  all_goals rfl

@[simp] theorem isUndefined_decodeBlock1 (op : Byte) : (decodeBlock1 op).isUndefined = false := by
  unfold decodeBlock1
  split <;> rfl

@[simp] theorem isUndefined_decodeBlock2 (op : Byte) : (decodeBlock2 op).isUndefined = false := isUndefined_aluR8 ..

/-! ### Block 3 and the whole decoder -/

/-- In each arm of block 3 the fields of the first byte, which name the arm, say whether that byte is one of the eleven. -/
theorem isUndefined_decodeBlock3 (op b1 b2 : Byte) (hblock : fieldBlock op = 3) :
    (decodeBlock3 op b1 b2).isUndefined = decide (op ∈ Claims.undefinedBytes) := by
  unfold decodeBlock3
  repeat' split
  all_goals
    simp only [↓isUndefined_decodeCb, ↓isUndefined_aluImm8, Instr.isUndefined]
    revert op
    decide

/-- Blocks 0 to 2 have neither an undefined opcode nor an undefined byte; block 3 has them together. -/
theorem isUndefined_decodeOp (op b1 b2 : Byte) :
    (decodeOp op b1 b2).isUndefined = decide (op ∈ Claims.undefinedBytes) := by
  by_cases hblock : fieldBlock op = 3
  · have h : decodeOp op b1 b2 = decodeBlock3 op b1 b2 := by simp [decodeOp, hblock]
    rw [h, isUndefined_decodeBlock3 op b1 b2 hblock]
  · have hbyte : op ∉ Claims.undefinedBytes := fun hmem => hblock (fieldBlock_of_mem_undefinedBytes op hmem)
    rw [decide_eq_false hbyte]
    obtain h0 | h1 | h2 : (fieldBlock op).toNat = 0 ∨ (fieldBlock op).toNat = 1 ∨ (fieldBlock op).toNat = 2 := by bv_omega
    · simp only [decodeOp, h0, isUndefined_decodeBlock0]
    · simp only [decodeOp, h1, isUndefined_decodeBlock1]
    · simp only [decodeOp, h2, isUndefined_decodeBlock2]

/-! ### One-byte instructions in a list of bytes -/

/-- R90, R91: an opcode of length 1 is decoded without a look at the bytes after it. -/
theorem decode_cons_of_opLength_eq_one {op : Byte} (h : opLength op = 1) (rest : List Byte) :
    decode (op :: rest) = .ok (decodeOp op 0 0, rest) := by
  simp [decode, h]

theorem undefinedRows_decodeOp : ∀ row ∈ Claims.undefinedRows, opLength row.2 = 1 ∧ decodeOp row.2 0 0 = row.1 := by decide

end Sys2Proof

namespace Sys2Proof.Proofs

open Sys2Proof.Machine Sys2Proof.Claims

theorem undefinedRows_decodes (row : Instr × Byte) (hrow : row ∈ undefinedRows) : Decodes [row.2] row.1 := by
  intro rest
  obtain ⟨hlen, hop⟩ := undefinedRows_decodeOp row hrow
  calc decode (row.2 :: rest)
    _ = .ok (decodeOp row.2 0 0, rest) := decode_cons_of_opLength_eq_one hlen rest
    _ = .ok (row.1, rest) := by rw [hop]

/-- Settles O3: the rows decode by evaluation; for the converse no arm of the decoder outside the eleven gives an undefined opcode. -/
theorem undefinedOpcodesAreTheEleven : Obligations.UndefinedOpcodesAreTheEleven := by
  unfold Obligations.UndefinedOpcodesAreTheEleven
  refine ⟨undefinedRows_decodes, fun op b1 b2 => ?_⟩
  rw [mem_undefinedRows_iff, isUndefined_decodeOp, decide_eq_true_iff]

end Sys2Proof.Proofs

/-! PROOFS. Family 40_alu8: the ALU operations with a register, `(HL)` or an immediate (R130 to R145). -/

namespace Sys2Proof

/-! ### The fields of an opcode byte -/

@[simp] theorem fieldBlock_opYZ (x : BitVec 2) (y z : BitVec 3) : fieldBlock (opYZ x y z) = x := by
  revert x y z
  decide

@[simp] theorem fieldY_opYZ (x : BitVec 2) (y z : BitVec 3) : fieldY (opYZ x y z) = y := by
  revert x y z
  decide

@[simp] theorem fieldZ_opYZ (x : BitVec 2) (y z : BitVec 3) : fieldZ (opYZ x y z) = z := by
  revert x y z
  decide

/-! ### Decoding of the ALU group -/

/-- R90, R91: an opcode of length 2 is decoded with the one byte after it. -/
theorem decode_cons_of_opLength_eq_two {op : Byte} (h : opLength op = 2) (b1 : Byte) (rest : List Byte) :
    decode (op :: b1 :: rest) = .ok (decodeOp op b1 0, rest) := by
  simp [decode, h]

theorem opLength_block2 : ∀ y z : BitVec 3, opLength (opYZ 0b10 y z) = 1 := by decide
theorem opLength_aluImm8 : ∀ y : BitVec 3, opLength (opYZ 0b11 y 0b110) = 2 := by decide

/-- R102: block 2 is the ALU group, the operation in bits 5..3 and the operand in bits 2..0. -/
theorem decodeOp_block2 (y z : BitVec 3) (b1 b2 : Byte) :
    decodeOp (opYZ 0b10 y z) b1 b2 = aluR8 (AluOp.ofCode y) (R8.ofCode z) := by
  simp [decodeOp, decodeBlock2]

/-- R103: `11ooo110` is the ALU operation with the immediate. -/
theorem decodeOp_aluImm8 (y : BitVec 3) (b1 b2 : Byte) :
    decodeOp (opYZ 0b11 y 0b110) b1 b2 = aluImm8 (AluOp.ofCode y) b1 := by
  simp [decodeOp, decodeBlock3]

end Sys2Proof

namespace Sys2Proof.Machine

/-! ### The state after an ALU instruction -/

/-- The state after the ALU operation `o` on A and `b` in an instruction of length `len`; `aluInstr_eq_next` ties it to the model. -/
def State.aluNext (o : AluOp) (b : Byte) (len : Word) (s : State) : State :=
  ((s.setA (aluCompute o s.a b s.flags).1).setFlags (aluCompute o s.a b s.flags).2).advance len

theorem aluInstr_eq_next (o : AluOp) (b : Byte) (len : Word) (s : State) : aluInstr o b len s = .next (s.aluNext o b len) := rfl

variable (s : State) (o : AluOp) (b : Byte) (len : Word)

@[simp] theorem State.aluNext_a : (s.aluNext o b len).a = (aluCompute o s.a b s.flags).1 := rfl
@[simp] theorem State.aluNext_flags : (s.aluNext o b len).flags = (aluCompute o s.a b s.flags).2 := rfl
@[simp] theorem State.aluNext_pc : (s.aluNext o b len).pc = s.pc + len := rfl

theorem exec_aluR8 (r : R8) : exec (aluR8 o r) s = .next (s.aluNext o (s.getR8 r) 1) := by
  cases o <;> exact aluInstr_eq_next ..

theorem exec_aluImm8 : exec (aluImm8 o b) s = .next (s.aluNext o b 2) := by
  cases o <;> exact aluInstr_eq_next ..

/-! ### Numbers -/

theorem lowNibble_eq_toNat_and (v : Byte) : lowNibble v = (v &&& 0xF).toNat := by
  simp [lowNibble, Nat.and_two_pow_sub_one_eq_mod _ 4]

theorem carryIn_le_one (c : Bool) : carryIn c ≤ 1 := by cases c <;> decide

/-- `a − b − cy` reduced to eight bits, on numbers. -/
theorem toNat_sub_sub_ofNat (a b : Byte) {cy : Nat} (hcy : cy ≤ 1) :
    (a - b - BitVec.ofNat 8 cy).toNat = (a.toNat + 512 - b.toNat - cy) % 256 := by
  bv_omega

end Sys2Proof.Machine

namespace Sys2Proof.Proofs

open Sys2Proof.Machine Sys2Proof.Claims

/-! ### Encoding and completion, for every operation -/

theorem decodes_aluR8 (y : BitVec 3) (r : R8) : Decodes [opYZ 0b10 y r.code] (aluR8 (AluOp.ofCode y) r) := by
  intro rest
  calc decode (opYZ 0b10 y r.code :: rest)
    _ = .ok (decodeOp (opYZ 0b10 y r.code) 0 0, rest) := decode_cons_of_opLength_eq_one (opLength_block2 y r.code) rest
    _ = .ok (aluR8 (AluOp.ofCode y) r, rest) := by rw [decodeOp_block2, R8.ofCode_code]

theorem decodes_aluImm8 (y : BitVec 3) (n : Byte) : Decodes [opYZ 0b11 y 0b110, n] (aluImm8 (AluOp.ofCode y) n) := by
  intro rest
  calc decode (opYZ 0b11 y 0b110 :: n :: rest)
    _ = .ok (decodeOp (opYZ 0b11 y 0b110) n 0, rest) := decode_cons_of_opLength_eq_two (opLength_aluImm8 y) n rest
    _ = .ok (aluImm8 (AluOp.ofCode y) n, rest) := by rw [decodeOp_aluImm8]

theorem operand8_eq_getR8 (r : R8) (s : State) : operand8 r s = s.getR8 r := by cases r <;> rfl

theorem completes_aluR8 (o : AluOp) {r : R8} {s : State} {P : State → Prop} (h : P (s.aluNext o (operand8 r s) 1)) :
    Completes (aluR8 o r) s P :=
  ⟨s.aluNext o (operand8 r s) 1, by rw [exec_aluR8, operand8_eq_getR8], h⟩

theorem completes_aluImm8 (o : AluOp) {n : Byte} {s : State} {P : State → Prop} (h : P (s.aluNext o n 2)) :
    Completes (aluImm8 o n) s P :=
  ⟨s.aluNext o n 2, exec_aluImm8 s o n, h⟩

section

/-! ### The frame -/

variable (b : Byte) (len : Word) (s : State)

theorem sameControl_aluNext (o : AluOp) : SameControl s (s.aluNext o b len) := ⟨rfl, rfl, rfl, rfl⟩

theorem regFrame_aluNext (o : AluOp) : RegFrame [.a, .f] s (s.aluNext o b len) := by
  refine ⟨fun q hq => ?_, rfl, sameControl_aluNext b len s o, fun _ => rfl⟩
  cases q
  case a | f => simp at hq
  all_goals rfl

/-- R137: CP leaves A too. -/
theorem regFrame_aluNext_cp : RegFrame [.f] s (s.aluNext .cp b len) := by
  refine ⟨fun q hq => ?_, rfl, sameControl_aluNext b len s .cp, fun _ => rfl⟩
  cases q
  case f => simp at hq
  all_goals rfl

/-! ### ADD and ADC -/

/-- R130, R131 for any operation that computes `a + b + cy`. -/
theorem addPost_aluNext {o : AluOp} {cy : Nat} (ho : aluCompute o s.a b s.flags = aluAdd s.a b cy) :
    AddPost b cy len s (s.aluNext o b len) := by
  refine ⟨?a, ?z, ?n, ?h, ?c, s.aluNext_pc o b len, regFrame_aluNext b len s o⟩
  all_goals simp [SetIff, ho, aluAdd, lowNibble_eq_toNat_and]

theorem addPost_add : AddPost b 0 len s (s.aluNext .add b len) := addPost_aluNext b len s rfl
theorem addPost_adc : AddPost b (cyOf s) len s (s.aluNext .adc b len) := addPost_aluNext b len s rfl

/-! ### SUB, SBC and CP -/

/-- R132, R133, R137 for any operation that takes its flags from `a − b − cy`. -/
theorem subFlags_aluNext {o : AluOp} {cy : Nat} (hcy : cy ≤ 1) (ho : (aluCompute o s.a b s.flags).2 = (aluSub s.a b cy).2) :
    SubFlags b cy s (s.aluNext o b len) := by
  refine ⟨?z, ?n, ?h, ?c⟩
  case z => simp [SetIff, ho, aluSub, ← BitVec.toNat_inj, toNat_sub_sub_ofNat s.a b hcy]
  all_goals simp [SetIff, ho, aluSub, lowNibble_eq_toNat_and]

theorem subPost_aluNext {o : AluOp} {cy : Nat} (hcy : cy ≤ 1) (ho : aluCompute o s.a b s.flags = aluSub s.a b cy) :
    SubPost b cy len s (s.aluNext o b len) := by
  refine ⟨?a, subFlags_aluNext b len s hcy (congrArg Prod.snd ho), s.aluNext_pc o b len, regFrame_aluNext b len s o⟩
  rw [State.aluNext_a, ho]
  exact toNat_sub_sub_ofNat s.a b hcy

theorem subPost_sub : SubPost b 0 len s (s.aluNext .sub b len) := subPost_aluNext b len s (Nat.zero_le 1) rfl
theorem subPost_sbc : SubPost b (cyOf s) len s (s.aluNext .sbc b len) := subPost_aluNext b len s (carryIn_le_one s.flags.c) rfl

theorem cpPost_cp : CpPost b len s (s.aluNext .cp b len) :=
  ⟨subFlags_aluNext b len s (Nat.zero_le 1) rfl, s.aluNext_pc .cp b len, regFrame_aluNext_cp b len s⟩

/-! ### AND, XOR and OR -/

/-- R134 to R136 for any operation whose result is `op` bit by bit. -/
theorem logicPost_aluNext {o : AluOp} {op : Bool → Bool → Bool} {r : Byte} {h : Bool}
    (ho : aluCompute o s.a b s.flags = aluLogic r h) (hr : ∀ k, r.getLsbD k = op (s.a.getLsbD k) (b.getLsbD k)) :
    LogicPost op h b len s (s.aluNext o b len) := by
  refine ⟨fun k _ => ?a, ?z, ?n, ?h, ?c, s.aluNext_pc o b len, regFrame_aluNext b len s o⟩
  case a => simpa [ho, aluLogic] using hr k
  case z => simp [SetIff, ho, aluLogic, ← BitVec.toNat_inj]
  all_goals simp [ho, aluLogic]

theorem logicPost_and : LogicPost (· && ·) true b len s (s.aluNext .and b len) :=
  logicPost_aluNext b len s rfl fun _ => BitVec.getLsbD_and
theorem logicPost_xor : LogicPost (· ^^ ·) false b len s (s.aluNext .xor b len) :=
  logicPost_aluNext b len s rfl fun _ => BitVec.getLsbD_xor
theorem logicPost_or : LogicPost (· || ·) false b len s (s.aluNext .or b len) :=
  logicPost_aluNext b len s rfl fun _ => BitVec.getLsbD_or

end

/-! ### The statements -/

/-- Settles O27: block 2 with the indices 0 to 3; ADD and ADC are one addition, SUB and SBC one subtraction, with carry in 0 or C. -/
theorem addAdcSubSbcRegister : Obligations.AddAdcSubSbcRegister := by
  unfold Obligations.AddAdcSubSbcRegister
  intro r s
  exact ⟨⟨decodes_aluR8 0 r, completes_aluR8 .add (addPost_add _ 1 s)⟩,
    ⟨decodes_aluR8 1 r, completes_aluR8 .adc (addPost_adc _ 1 s)⟩,
    ⟨decodes_aluR8 2 r, completes_aluR8 .sub (subPost_sub _ 1 s)⟩,
    ⟨decodes_aluR8 3 r, completes_aluR8 .sbc (subPost_sbc _ 1 s)⟩⟩

/-- Settles O28: block 2 with the indices 4 to 6; the three results differ only in the operation on each bit and in H. -/
theorem andXorOrRegister : Obligations.AndXorOrRegister := by
  unfold Obligations.AndXorOrRegister
  intro r s
  exact ⟨⟨decodes_aluR8 4 r, completes_aluR8 .and (logicPost_and _ 1 s)⟩,
    ⟨decodes_aluR8 5 r, completes_aluR8 .xor (logicPost_xor _ 1 s)⟩,
    ⟨decodes_aluR8 6 r, completes_aluR8 .or (logicPost_or _ 1 s)⟩⟩

/-- Settles O29: block 2 with the index 7; the flags are those of SUB and A is written back as it was. -/
theorem cpRegister : Obligations.CpRegister := by
  unfold Obligations.CpRegister
  intro r s
  refine ⟨decodes_aluR8 7 r, completes_aluR8 .cp (cpPost_cp _ 1 s), ?_⟩
  rintro rfl
  rfl

/-- Settles O30: the words `11ooo110` with the indices 0 to 3, and the results of the register forms with `b = imm8`. -/
theorem addAdcSubSbcImmediate : Obligations.AddAdcSubSbcImmediate := by
  unfold Obligations.AddAdcSubSbcImmediate
  intro n s
  exact ⟨⟨decodes_aluImm8 0 n, completes_aluImm8 .add (addPost_add n 2 s)⟩,
    ⟨decodes_aluImm8 1 n, completes_aluImm8 .adc (addPost_adc n 2 s)⟩,
    ⟨decodes_aluImm8 2 n, completes_aluImm8 .sub (subPost_sub n 2 s)⟩,
    ⟨decodes_aluImm8 3 n, completes_aluImm8 .sbc (subPost_sbc n 2 s)⟩⟩

/-- Settles O31: the words `11ooo110` with the indices 4 to 7, and the results of the register forms with `b = imm8`. -/
theorem andXorOrCpImmediate : Obligations.AndXorOrCpImmediate := by
  unfold Obligations.AndXorOrCpImmediate
  intro n s
  exact ⟨⟨decodes_aluImm8 4 n, completes_aluImm8 .and (logicPost_and n 2 s)⟩,
    ⟨decodes_aluImm8 5 n, completes_aluImm8 .xor (logicPost_xor n 2 s)⟩,
    ⟨decodes_aluImm8 6 n, completes_aluImm8 .or (logicPost_or n 2 s)⟩,
    ⟨decodes_aluImm8 7 n, completes_aluImm8 .cp (cpPost_cp n 2 s)⟩⟩

end Sys2Proof.Proofs

/-! PROOFS. Family 42_rotates_shifts: the rotates and shifts of the CB space (R182), with SWAP and SRL (R180, R181). -/

namespace Sys2Proof

/-! ### Decoding of the CB space -/

theorem opLength_cb : opLength 0xCB = 2 := by decide

theorem decodeOp_cb (b1 b2 : Byte) : decodeOp 0xCB b1 b2 = decodeCb b1 := rfl

/-- R104: block 0 of the CB space is the rotates and shifts, the operation in bits 5..3 and the operand in bits 2..0. -/
theorem decodeCb_block0 (y z : BitVec 3) : decodeCb (opYZ 0b00 y z) = rotR8 (RotOp.ofCode y) (R8.ofCode z) := by
  simp [decodeCb]

end Sys2Proof

namespace Sys2Proof.Machine

/-! ### The bits that leave and enter, on numbers -/

section

variable (old : Byte) (bit : Bool)

theorem getLsbD_zero_iff : old.getLsbD 0 = true ↔ old.toNat % 2 = 1 := by
  revert old
  decide

theorem getLsbD_seven_iff : old.getLsbD 7 = true ↔ old.toNat ≥ 128 := by
  revert old
  decide

theorem carryIn_getLsbD_zero : carryIn (old.getLsbD 0) = old.toNat % 2 := by
  simp only [carryIn, getLsbD_zero_iff]
  split <;> omega

theorem carryIn_getLsbD_seven : carryIn (old.getLsbD 7) = old.toNat / 128 := by
  have hold := old.isLt
  simp only [carryIn, getLsbD_seven_iff]
  split <;> omega

theorem carryIn_false : carryIn false = 0 := rfl

theorem ofBool_toNat_eq_carryIn : (BitVec.ofBool bit).toNat = carryIn bit := by cases bit <;> rfl

theorem shiftInRight_toNat : (shiftInRight old bit).toNat = (2 * old.toNat) % 256 + carryIn bit := by
  rw [shiftInRight, BitVec.toNat_append, ← Nat.shiftLeft_add_eq_or_of_lt (BitVec.ofBool bit).isLt, ofBool_toNat_eq_carryIn]
  simp only [BitVec.extractLsb'_toNat, Nat.shiftLeft_eq, Nat.shiftRight_zero]
  omega

theorem shiftInLeft_toNat : (shiftInLeft bit old).toNat = old.toNat / 2 + 128 * carryIn bit := by
  have hold := old.isLt
  rw [shiftInLeft, BitVec.toNat_append, ← Nat.shiftLeft_add_eq_or_of_lt (old.extractLsb' 1 7).isLt, ofBool_toNat_eq_carryIn]
  simp only [BitVec.extractLsb'_toNat, Nat.shiftLeft_eq, Nat.shiftRight_eq_div_pow]
  omega

/-- R180: the two nibbles exchanged. -/
theorem swapNibbles_toNat : (old.extractLsb' 0 4 ++ old.extractLsb' 4 4).toNat = 16 * (old.toNat % 16) + old.toNat / 16 := by
  have hold := old.isLt
  rw [BitVec.toNat_append, ← Nat.shiftLeft_add_eq_or_of_lt (old.extractLsb' 4 4).isLt]
  simp only [BitVec.extractLsb'_toNat, Nat.shiftLeft_eq, Nat.shiftRight_eq_div_pow]
  omega

end

/-! ### A write of an `R8` operand, read back -/

section

variable (s : State) (r : R8) (v : Byte)

theorem State.reg8_setR8 (q : Reg8) : (s.setR8 r v).reg8 q = if Claims.regOf r = some q then v else s.reg8 q := by
  cases r <;> cases q <;> rfl

theorem State.read8_setR8 (x : Word) : (s.setR8 r v).read8 x = if r = .hlInd ∧ x = s.hl then v else s.read8 x := by
  cases r
  case hlInd => simpa [State.setR8] using s.read8_write8 s.hl x v
  all_goals rfl

theorem State.reg8_setFlags_of_ne {q : Reg8} (hq : q ≠ .f) (f : Flags) : (s.setFlags f).reg8 q = s.reg8 q := by
  cases q
  case f => exact absurd rfl hq
  all_goals rfl

end

/-! ### The state after a CB rotate or shift -/

/-- The state after the rotate or shift `o` of the operand `r`; `rotateR8_eq_next` ties it to the model. -/
def State.rotateNext (o : RotOp) (r : R8) (s : State) : State :=
  ((s.setR8 r (rotate o (s.getR8 r) s.flags.c).1).setFlags (rotateFlags (rotate o (s.getR8 r) s.flags.c))).advance 2

theorem rotateR8_eq_next (o : RotOp) (r : R8) (s : State) : rotateR8 o r s = .next (s.rotateNext o r) := rfl

variable (o : RotOp) (r : R8) (s : State)

@[simp] theorem State.rotateNext_flags : (s.rotateNext o r).flags = rotateFlags (rotate o (s.getR8 r) s.flags.c) := rfl
@[simp] theorem State.rotateNext_pc : (s.rotateNext o r).pc = s.pc + 2 := congrArg (· + 2) (s.setR8_pc r _)

theorem exec_rotR8 : exec (rotR8 o r) s = .next (s.rotateNext o r) := by cases o <;> exact rotateR8_eq_next ..
theorem cycles_rotR8 : cycles (rotR8 o r) s = r8Cycles r 2 4 := by cases o <;> rfl
theorem dataAccesses_rotR8 : dataAccesses (rotR8 o r) s = rotateAccesses o r s := by cases o <;> rfl

end Sys2Proof.Machine

namespace Sys2Proof.Proofs

open Sys2Proof.Machine Sys2Proof.Claims

theorem regOf_eq_none_iff (r : R8) : regOf r = none ↔ r = .hlInd := by cases r <;> simp [regOf]

theorem ne_f_of_regOf {r : R8} {q : Reg8} (h : regOf r = some q) : q ≠ .f := by
  rintro rfl
  cases r <;> simp [regOf] at h

section

variable (o : RotOp) (r : R8) (s : State)

/-! ### The results and carries of section 3 -/

theorem rotate_toNat (old : Byte) (c : Bool) : (rotate o old c).1.toNat = rotResult o old.toNat (carryIn c) := by
  cases o
  case rlc | rl | sla => simp only [rotate, rotResult, shiftInRight_toNat, carryIn_getLsbD_seven, carryIn_false, Nat.add_zero]
  case rrc | rr | sra | srl =>
    simp only [rotate, rotResult, shiftInLeft_toNat, carryIn_getLsbD_zero, carryIn_getLsbD_seven, carryIn_false, Nat.mul_zero, Nat.add_zero]
  case swap => exact swapNibbles_toNat old

theorem rotate_carry_iff (old : Byte) (c : Bool) : (rotate o old c).2 = true ↔ rotCarry o old.toNat := by
  cases o
  case rlc | rl | sla => exact getLsbD_seven_iff old
  case rrc | rr | sra | srl => exact getLsbD_zero_iff old
  case swap => exact iff_of_false Bool.false_ne_true id

theorem rotate_operand8_toNat : (rotate o (s.getR8 r) s.flags.c).1.toNat = rotResult o (operand8 r s).toNat (cyOf s) := by
  rw [operand8_eq_getR8]
  exact rotate_toNat o (s.getR8 r) s.flags.c

theorem rotate_operand8 : (rotate o (s.getR8 r) s.flags.c).1 = BitVec.ofNat 8 (rotResult o (operand8 r s).toNat (cyOf s)) := by
  rw [← rotate_operand8_toNat, BitVec.ofNat_toNat, BitVec.setWidth_eq]

/-! ### Encoding, completion and cost, for every operation -/

theorem decodes_rotR8 (y : BitVec 3) : Decodes [0xCB, opYZ 0b00 y r.code] (rotR8 (RotOp.ofCode y) r) := by
  intro rest
  calc decode (0xCB :: opYZ 0b00 y r.code :: rest)
    _ = .ok (decodeOp 0xCB (opYZ 0b00 y r.code) 0, rest) := decode_cons_of_opLength_eq_two opLength_cb _ rest
    _ = .ok (rotR8 (RotOp.ofCode y) r, rest) := by rw [decodeOp_cb, decodeCb_block0, R8.ofCode_code]

/-- An instruction that writes an `R8` operand, sets the flags and moves PC changes nothing else. -/
theorem wroteR8_setR8_setFlags_advance (v : Byte) (f : Flags) (len : Word) :
    WroteR8 r v s (((s.setR8 r v).setFlags f).advance len) := by
  have hreg : ∀ q, q ≠ .f → (((s.setR8 r v).setFlags f).advance len).reg8 q = if regOf r = some q then v else s.reg8 q :=
    fun q hq => ((s.setR8 r v).reg8_setFlags_of_ne hq f).trans (s.reg8_setR8 r v q)
  have hmem := s.read8_setR8 r v
  refine ⟨s.setR8_sp r v, ⟨s.setR8_ime r v, s.setR8_imePending r v, s.setR8_halted r v, s.setR8_stopped r v⟩, ?_⟩
  split
  case h_1 q hr =>
    have hind : r ≠ .hlInd := fun h => by simp [h, regOf] at hr
    refine ⟨?reg, fun p hp => ?others, fun x => ?mem⟩
    case reg => rw [hreg q (ne_f_of_regOf hr), if_pos hr]
    case others =>
      obtain ⟨hpq, hpf⟩ : p ≠ q ∧ p ≠ .f := by simpa using hp
      rw [hreg p hpf, hr, if_neg (by simpa using Ne.symm hpq)]
    case mem => exact (hmem x).trans (if_neg fun h => hind h.1)
  case h_2 hr =>
    have hind : r = .hlInd := (regOf_eq_none_iff r).mp hr
    refine ⟨⟨?stored, fun x hx => ?rest⟩, fun p hp => ?regs⟩
    case stored => exact (hmem s.hl).trans (if_pos ⟨hind, rfl⟩)
    case rest => exact (hmem x).trans (if_neg fun h => hx (List.mem_singleton.mpr h.2))
    case regs => rw [hreg p fun h => hp (List.mem_singleton.mpr h), hr, if_neg nofun]

theorem cbRotPost_rotateNext : CbRotPost o r s (s.rotateNext o r) := by
  refine ⟨?wrote, ?z, rfl, rfl, ?c, s.rotateNext_pc o r⟩
  case wrote =>
    rw [← rotate_operand8]
    exact wroteR8_setR8_setFlags_advance r s _ _ 2
  case z => rw [SetIff, State.rotateNext_flags, ← rotate_operand8_toNat]; simp [rotateFlags, ← BitVec.toNat_inj]
  case c =>
    rw [operand8_eq_getR8]
    exact rotate_carry_iff o (s.getR8 r) s.flags.c

theorem completes_rotR8 : Completes (rotR8 o r) s (CbRotPost o r s) :=
  ⟨s.rotateNext o r, exec_rotR8 o r s, cbRotPost_rotateNext o r s⟩

theorem cbRotCost_rotR8 : CbRotCost (rotR8 o r) o r s := by
  constructor
  · simp only [CyclesByOperand, cycles_rotR8, r8Cycles, regOf_eq_none_iff]
  · rw [dataAccesses_rotR8, rotateAccesses, rotate_operand8]
    by_cases hr : r = .hlInd
    · subst hr; rfl
    · simp [r8Modify, r8Read, r8Write, hr]

end

/-- Settles O37: block 0 of the CB space with the indices 6 and 7; the results and carries are those of section 3. -/
theorem cbSwapAndShiftRightLogical : Obligations.CbSwapAndShiftRightLogical := by
  unfold Obligations.CbSwapAndShiftRightLogical
  intro r s
  exact ⟨⟨decodes_rotR8 r 6, completes_rotR8 .swap r s, cbRotCost_rotR8 .swap r s⟩,
    ⟨decodes_rotR8 r 7, completes_rotR8 .srl r s, cbRotCost_rotR8 .srl r s⟩⟩

end Sys2Proof.Proofs

/-! PROOFS. Family 43_bitops: BIT, RES and SET of the CB space (R190 to R192). -/

namespace Sys2Proof

/-! ### Decoding of the bit operations -/

variable (y z : BitVec 3)

/-- R104: blocks 1 to 3 of the CB space are the bit operations, the bit in bits 5..3 and the operand in bits 2..0. -/
theorem decodeCb_block1 : decodeCb (opYZ 0b01 y z) = .bitBR8 (indexOfCode y) (R8.ofCode z) := by
  simp [decodeCb]

theorem decodeCb_block2 : decodeCb (opYZ 0b10 y z) = .resBR8 (indexOfCode y) (R8.ofCode z) := by
  simp [decodeCb]

theorem decodeCb_block3 : decodeCb (opYZ 0b11 y z) = .setBR8 (indexOfCode y) (R8.ofCode z) := by
  simp [decodeCb]

end Sys2Proof

namespace Sys2Proof.Machine

/-! ### The bits of the results -/

section

variable (b : Fin 8) (v : Byte)

theorem getLsbD_one_shiftLeft (k : Nat) : (1#8 <<< b.val).getLsbD k = decide (k = b.val) := by
  rw [← BitVec.twoPow_eq, BitVec.getLsbD_twoPow, decide_eq_true b.isLt, Bool.true_and, decide_eq_decide.mpr eq_comm]

/-- R190: Z is the complement of the tested bit. -/
theorem bitFlags_z_iff (f : Flags) : (bitFlags b v f).z = true ↔ v.getLsbD b.val = false := by simp [bitFlags]

theorem getLsbD_resBit (k : Nat) (hk : k < 8) : (resBit b v).getLsbD k = if k = b.val then false else v.getLsbD k := by
  simp only [resBit, BitVec.getLsbD_and, BitVec.getLsbD_not, getLsbD_one_shiftLeft, hk]
  by_cases h : k = b.val <;> simp [h]

theorem getLsbD_setBit (k : Nat) : (setBit b v).getLsbD k = if k = b.val then true else v.getLsbD k := by
  simp only [setBit, BitVec.getLsbD_or, getLsbD_one_shiftLeft]
  by_cases h : k = b.val <;> simp [h]

end

/-! ### What the bit operations do and access -/

variable (b : Fin 8) (r : R8) (s : State)

theorem exec_bitBR8 : exec (.bitBR8 b r) s = .next ((s.setFlags (bitFlags b (s.getR8 r) s.flags)).advance 2) := rfl
theorem exec_resBR8 : exec (.resBR8 b r) s = .next ((s.setR8 r (resBit b (s.getR8 r))).advance 2) := rfl
theorem exec_setBR8 : exec (.setBR8 b r) s = .next ((s.setR8 r (setBit b (s.getR8 r))).advance 2) := rfl

theorem dataAccesses_bitBR8 : dataAccesses (.bitBR8 b r) s = r8Read r s := rfl
theorem dataAccesses_resBR8 : dataAccesses (.resBR8 b r) s = r8Modify r (resBit b (s.getR8 r)) s := rfl
theorem dataAccesses_setBR8 : dataAccesses (.setBR8 b r) s = r8Modify r (setBit b (s.getR8 r)) s := rfl

theorem r8Modify_hlInd (v : Byte) : r8Modify .hlInd v s = [.read s.hl (s.read8 s.hl), .write s.hl v] := rfl

end Sys2Proof.Machine

namespace Sys2Proof.Proofs

open Sys2Proof.Machine Sys2Proof.Claims

/-! ### Encoding and cost, for every word of the CB space -/

theorem decodes_cb {cb : Byte} {i : Instr} (h : decodeCb cb = i) : Decodes [0xCB, cb] i := by
  intro rest
  rw [← h, ← decodeOp_cb cb 0]
  exact decode_cons_of_opLength_eq_two opLength_cb cb rest

theorem cyclesByOperand_of_r8Cycles {i : Instr} {r : R8} {reg mem : Nat} {s : State} (h : cycles i s = r8Cycles r reg mem) :
    CyclesByOperand i r reg mem s := by
  simp only [CyclesByOperand, h, r8Cycles, regOf_eq_none_iff]

section

variable (b : Fin 8) (r : R8) (s : State)

theorem decodes_bitBR8 : Decodes [0xCB, opYZ 0b01 (indexCode b) r.code] (.bitBR8 b r) :=
  decodes_cb (by rw [decodeCb_block1, indexOfCode_indexCode, R8.ofCode_code])

theorem decodes_resBR8 : Decodes [0xCB, opYZ 0b10 (indexCode b) r.code] (.resBR8 b r) :=
  decodes_cb (by rw [decodeCb_block2, indexOfCode_indexCode, R8.ofCode_code])

theorem decodes_setBR8 : Decodes [0xCB, opYZ 0b11 (indexCode b) r.code] (.setBR8 b r) :=
  decodes_cb (by rw [decodeCb_block3, indexOfCode_indexCode, R8.ofCode_code])

/-! ### BIT -/

theorem regFrame_setFlags_advance (f : Flags) (len : Word) : RegFrame [.f] s ((s.setFlags f).advance len) :=
  ⟨fun _ hq => s.reg8_setFlags_of_ne (List.ne_of_not_mem_cons hq) f, rfl, ⟨rfl, rfl, rfl, rfl⟩, fun _ => rfl⟩

theorem completes_bitBR8 :
    Completes (.bitBR8 b r) s (fun t =>
      SetIff t.flags.z ((operand8 r s).getLsbD b = false) ∧ t.flags.n = false ∧ t.flags.h = true ∧ t.flags.c = s.flags.c ∧
      t.pc = s.pc + 2 ∧ RegFrame [.f] s t) := by
  refine ⟨_, exec_bitBR8 b r s, ?z, rfl, rfl, rfl, rfl, regFrame_setFlags_advance s _ 2⟩
  rw [operand8_eq_getR8]
  exact bitFlags_z_iff b (s.getR8 r) s.flags

/-! ### RES and SET -/

/-- An instruction that writes an `R8` operand and moves PC changes no flag and nothing else. -/
theorem wroteR8_setR8_advance (v : Byte) (len : Word) : WroteR8 r v s ((s.setR8 r v).advance len) :=
  wroteR8_setR8_setFlags_advance r s v (s.setR8 r v).flags len

/-- What R191 and R192 share: of the operand, `v` after the instruction `i`, the bit `b` is `x` and the others are as before. -/
def BitWritten (x : Bool) (i : Instr) (b : Fin 8) (r : R8) (s t : State) : Prop :=
  ∃ v : Byte, (∀ k < 8, v.getLsbD k = if k = b.val then x else (operand8 r s).getLsbD k) ∧
    WroteR8 r v s t ∧ t.flags = s.flags ∧ t.pc = s.pc + 2 ∧
    (r = .hlInd → dataAccesses i s = [.read s.hl (s.read8 s.hl), .write s.hl v])

theorem completes_bitWritten {x : Bool} {i : Instr} {v : Byte}
    (hbits : ∀ k < 8, v.getLsbD k = if k = b.val then x else (s.getR8 r).getLsbD k)
    (hexec : exec i s = .next ((s.setR8 r v).advance 2)) (haccesses : dataAccesses i s = r8Modify r v s) :
    Completes i s (BitWritten x i b r s) := by
  refine ⟨_, hexec, v, ?bits, wroteR8_setR8_advance r s v 2, s.setR8_flags r v, congrArg (· + 2) (s.setR8_pc r v), ?accesses⟩
  case bits => simpa only [operand8_eq_getR8] using hbits
  case accesses =>
    rintro rfl
    exact haccesses.trans (r8Modify_hlInd s v)

theorem completes_resBR8 : Completes (.resBR8 b r) s (BitWritten false (.resBR8 b r) b r s) :=
  completes_bitWritten b r s (getLsbD_resBit b _) (exec_resBR8 b r s) (dataAccesses_resBR8 b r s)

theorem completes_setBR8 : Completes (.setBR8 b r) s (BitWritten true (.setBR8 b r) b r s) :=
  completes_bitWritten b r s (fun k _ => getLsbD_setBit b _ k) (exec_setBR8 b r s) (dataAccesses_setBR8 b r s)

end

/-- Settles O38: block 1 of the CB space; the operand is read and only the flags are written. -/
theorem bitTest : Obligations.BitTest := by
  unfold Obligations.BitTest
  intro b r s
  exact ⟨decodes_bitBR8 b r, completes_bitBR8 b r s, cyclesByOperand_of_r8Cycles rfl, dataAccesses_bitBR8 b r s⟩

/-- Settles O39: blocks 2 and 3 of the CB space, two cases of an operand written with one bit changed. -/
theorem bitResetAndSet : Obligations.BitResetAndSet := by
  unfold Obligations.BitResetAndSet
  intro b r s
  exact ⟨⟨decodes_resBR8 b r, completes_resBR8 b r s, cyclesByOperand_of_r8Cycles rfl⟩,
    ⟨decodes_setBR8 b r, completes_setBR8 b r s, cyclesByOperand_of_r8Cycles rfl⟩⟩

end Sys2Proof.Proofs

/-! PROOFS. Family 45_control: CALL with a 16-bit target (R235). -/

namespace Sys2Proof

/-! ### Decoding of CALL -/

/-- R90, R91: an opcode of length 3 is decoded with the two bytes after it. -/
theorem decode_cons_of_opLength_eq_three {op : Byte} (h : opLength op = 3) (b1 b2 : Byte) (rest : List Byte) :
    decode (op :: b1 :: b2 :: rest) = .ok (decodeOp op b1 b2, rest) := by
  simp [decode, h]

theorem opLength_callImm16 : opLength 0b11001101 = 3 := by decide

theorem decodeOp_callImm16 (b1 b2 : Byte) : decodeOp 0b11001101 b1 b2 = .callImm16 (imm16OfBytes b1 b2) := rfl

end Sys2Proof

namespace Sys2Proof.Machine

theorem exec_callImm16 (n : Word) (s : State) : exec (.callImm16 n) s = .next (s.callTo (s.pc + 3) n) := rfl

theorem cycles_callImm16 (n : Word) (s : State) : cycles (.callImm16 n) s = 6 := rfl

end Sys2Proof.Machine

namespace Sys2Proof.Proofs

open Sys2Proof.Machine Sys2Proof.Claims

/-! ### `State.callTo`: a push, then PC at the target -/

theorem stored16_callTo (ret target : Word) (s : State) : Stored16 (s.sp - 2) ret s (s.callTo ret target) :=
  stored16_push16 s ret

theorem sameRegs_callTo (ret target : Word) (s : State) : SameRegs [] s (s.callTo ret target) :=
  sameRegs_push16 s ret

theorem sameControl_callTo (ret target : Word) (s : State) : SameControl s (s.callTo ret target) :=
  sameControl_push16 s ret

theorem called_callTo (ret target : Word) (s : State) : Called ret target s (s.callTo ret target) :=
  ⟨s.callTo_sp ret target, stored16_callTo ret target s, s.callTo_pc ret target, sameRegs_callTo ret target s,
    sameControl_callTo ret target s⟩

/-! ### CALL imm16 -/

theorem decodes_callImm16 (n : Word) : Decodes (0b11001101 :: imm16Bytes n) (.callImm16 n) := by
  intro rest
  calc decode (0b11001101 :: n.extractLsb' 0 8 :: n.extractLsb' 8 8 :: rest)
    _ = .ok (decodeOp 0b11001101 (n.extractLsb' 0 8) (n.extractLsb' 8 8), rest) :=
      decode_cons_of_opLength_eq_three opLength_callImm16 _ _ rest
    _ = .ok (.callImm16 n, rest) := by rw [decodeOp_callImm16, imm16OfBytes_extract]

theorem completes_callImm16 (n : Word) (s : State) : Completes (.callImm16 n) s (Called (s.pc + 3) n s) :=
  ⟨s.callTo (s.pc + 3) n, exec_callImm16 n s, called_callTo (s.pc + 3) n s⟩

/-- Settles O46: CALL is `State.callTo` with the return address `pc + 3`, and its operand bytes give the target back. -/
theorem callPushesReturnAddress : Obligations.CallPushesReturnAddress := by
  unfold Obligations.CallPushesReturnAddress
  intro n s
  exact ⟨decodes_callImm16 n, completes_callImm16 n s, cycles_callImm16 n s⟩

end Sys2Proof.Proofs

/-! PROOFS. Family 60_exceptions: no exception but the undefined opcodes (R301). -/

namespace Sys2Proof.Machine

/-! ### Instructions: `exec` answers a next state for every defined one -/

/-- R111: every second byte after the prefix has a CB-space meaning, and each of those goes on. -/
theorem execPrefixCb_goes_on (cb : Byte) (s : State) : ∃ t, execPrefixCb cb s = .next t := by
  unfold execPrefixCb
  split
  case h_1 => exact ⟨_, rotateR8_eq_next ..⟩
  case h_2 => exact ⟨_, exec_bitBR8 ..⟩
  case h_3 => exact ⟨_, exec_resBR8 ..⟩
  case h_4 => exact ⟨_, exec_setBR8 ..⟩

/-- Only the arms of the eleven undefined opcodes raise; the other meanings are a `.next` of some state, by their definitions. -/
theorem exec_goes_on {i : Instr} (hdefined : i.isUndefined = false) (s : State) : ∃ t, exec i s = .next t := by
  cases i
  case undefinedD3 | undefinedDB | undefinedDD | undefinedE3 | undefinedE4 | undefinedEB | undefinedEC | undefinedED
      | undefinedF4 | undefinedFC | undefinedFD => simp [Instr.isUndefined] at hdefined
  case prefixCb cb => exact execPrefixCb_goes_on cb s
  all_goals exact ⟨_, rfl⟩

/-! ### The step driver: the idle tick goes on, and a running step goes on when its instruction does -/

theorem step_of_idle {s : State} (hidle : s.idle = true) : step s = .next s := by
  simp [step, hidle]

theorem step_of_exec_next {s u : State} (hidle : s.idle = false) (hexec : exec (fetchInstr s) s = .next u) :
    step s = .next (imeTick s.imePending u) := by
  simp [step, hidle, hexec, tickResult]

theorem isUndefined_fetchInstr (s : State) : (fetchInstr s).isUndefined = decide (s.read8 s.pc ∈ Claims.undefinedBytes) :=
  isUndefined_decodeOp ..

end Sys2Proof.Machine

namespace Sys2Proof.Proofs

open Sys2Proof.Machine Sys2Proof.Claims

/-- Settles O11: an idle step is a tick; a running one executes a defined instruction, since its first byte is a defined one. -/
theorem nothingElseRaises : Obligations.NothingElseRaises := by
  unfold Obligations.NothingElseRaises
  intro s hbyte
  cases hidle : s.idle with
  | true => exact ⟨s, step_of_idle hidle⟩
  | false =>
    have hdefined : (fetchInstr s).isUndefined = false := by rw [isUndefined_fetchInstr, decide_eq_false hbyte]
    obtain ⟨u, hexec⟩ := exec_goes_on hdefined s
    exact ⟨_, step_of_exec_next hidle hexec⟩

end Sys2Proof.Proofs

/-! PROOFS. Family 70_reset_and_hazards: the post-boot state (R340). -/

namespace Sys2Proof.Machine

/-- The fetch reads the three bytes from PC on, wherever PC is known to be. -/
theorem fetchInstr_of_pc_eq {t : State} {x : Word} (hpc : t.pc = x) :
    fetchInstr t = decodeOp (t.read8 x) (t.read8 (x + 1)) (t.read8 (x + 2)) := by
  rw [fetchInstr, hpc]

/-- What R340 asks of a state on post-boot-ROM entry, with the fetch that follows from its PC. -/
def State.PostBoot (t : State) : Prop :=
  t.pc = 0x0100 ∧ t.sp = 0xFFFE ∧ t.ime = false ∧ t.halted = false ∧ t.imePending = 0 ∧
    fetchInstr t = decodeOp (t.read8 0x0100) (t.read8 0x0101) (t.read8 0x0102)

/-- R340 for the registers of `State.resetWith` over any memory: construction has none written, `resetOp` keeps the one of before. -/
theorem State.postBoot_resetWith_setMem (init : Config.Init) (m : Memory) : ((State.resetWith init).setMem m).PostBoot := by
  have hpc : ((State.resetWith init).setMem m).pc = 0x0100 := rfl
  exact ⟨hpc, rfl, rfl, rfl, rfl, fetchInstr_of_pc_eq hpc⟩

end Sys2Proof.Machine

namespace Sys2Proof.Proofs

open Sys2Proof.Machine

/-- Settles O18: construction and `resetOp` both give the post-boot registers, over the empty memory and over the memory of before. -/
theorem resetGivesPostBootState : Obligations.ResetGivesPostBootState := by
  unfold Obligations.ResetGivesPostBootState
  constructor
  · intro init
    exact State.postBoot_resetWith_setMem init []
  · intro init s
    exact ⟨resetOp init s, rfl, State.postBoot_resetWith_setMem init s.mem⟩

end Sys2Proof.Proofs

/-! PROOFS. Family other: the decoder and the encoder undo each other (R90, R91, R110). -/

namespace Sys2Proof

/-! ### Decoding the words of an instruction -/

@[simp] theorem imm16Bytes_imm16OfBytes (lo hi : Byte) : imm16Bytes (imm16OfBytes lo hi) = [lo, hi] := by
  have hlo : (imm16OfBytes lo hi).extractLsb' 0 8 = lo := Machine.loByte_joinBytes hi lo
  have hhi : (imm16OfBytes lo hi).extractLsb' 8 8 = hi := Machine.hiByte_joinBytes hi lo
  rw [imm16Bytes, hlo, hhi]

/-- The decoder reads the words of `i` as `i`, whatever follows. -/
abbrev Instr.RoundTrips (i : Instr) : Prop := Claims.Decodes (encode i) i

theorem roundTrips_of_one {op : Byte} {i : Instr} (henc : encode i = [op]) (hlen : opLength op = 1) (hdec : decodeOp op 0 0 = i) :
    i.RoundTrips := by
  intro rest
  rw [henc, ← hdec]
  exact decode_cons_of_opLength_eq_one hlen rest

theorem roundTrips_of_two {op b1 : Byte} {i : Instr} (henc : encode i = [op, b1]) (hlen : opLength op = 2)
    (hdec : decodeOp op b1 0 = i) : i.RoundTrips := by
  intro rest
  rw [henc, ← hdec]
  exact decode_cons_of_opLength_eq_two hlen b1 rest

/-- Three bytes carry an `imm16`, low byte first; `hdec` names the instruction as a function of it. -/
theorem roundTrips_of_three {op : Byte} {n : Word} (f : Word → Instr) (henc : encode (f n) = op :: imm16Bytes n)
    (hlen : opLength op = 3) (hdec : ∀ b1 b2, decodeOp op b1 b2 = f (imm16OfBytes b1 b2)) : (f n).RoundTrips := by
  intro rest
  rw [henc]
  calc decode (op :: n.extractLsb' 0 8 :: n.extractLsb' 8 8 :: rest)
    _ = .ok (decodeOp op (n.extractLsb' 0 8) (n.extractLsb' 8 8), rest) := decode_cons_of_opLength_eq_three hlen _ _ rest
    _ = .ok (f n, rest) := by rw [hdec, imm16OfBytes_extract]

/-- R101: block 1 is `LD r8, r8'`, but for the byte of `LD (HL), (HL)`. -/
theorem roundTrips_ldR8R8 {dst src : R8} (hwf : (Instr.ldR8R8 dst src).wellFormed = true) : (Instr.ldR8R8 dst src).RoundTrips := by
  refine roundTrips_of_one rfl ?_ ?_
  · cases dst <;> cases src <;> rfl
  · cases dst <;> cases src
    case hlInd.hlInd => simp [Instr.wellFormed] at hwf
    all_goals rfl

theorem roundTrips_rstTgt3 (k : Fin 8) : (Instr.rstTgt3 k).RoundTrips := by
  have hlen : ∀ y : BitVec 3, opLength (opYZ 0b11 y 0b111) = 1 := by decide
  exact roundTrips_of_one rfl (hlen (indexCode k)) (by simp [decodeOp, decodeBlock3])

theorem roundTrips_of_wellFormed {i : Instr} (hwf : i.wellFormed = true) : i.RoundTrips := by
  cases i
  case prefixCb cb => simp [Instr.wellFormed] at hwf
  case ldR8R8 dst src => exact roundTrips_ldR8R8 hwf
  case ldR16Imm16 rr n => cases rr <;> exact roundTrips_of_three (.ldR16Imm16 _) rfl rfl fun _ _ => rfl
  case jpCondImm16 cc n => cases cc <;> exact roundTrips_of_three (.jpCondImm16 _) rfl rfl fun _ _ => rfl
  case callCondImm16 cc n => cases cc <;> exact roundTrips_of_three (.callCondImm16 _) rfl rfl fun _ _ => rfl
  case ldImm16Sp n => exact roundTrips_of_three .ldImm16Sp rfl rfl fun _ _ => rfl
  case jpImm16 n => exact roundTrips_of_three .jpImm16 rfl rfl fun _ _ => rfl
  case ldImm16A n => exact roundTrips_of_three .ldImm16A rfl rfl fun _ _ => rfl
  case ldAImm16 n => exact roundTrips_of_three .ldAImm16 rfl rfl fun _ _ => rfl
  case callImm16 n => exact Proofs.decodes_callImm16 n
  case ldR16memA rr | ldAR16mem rr | incR16 rr | decR16 rr | addHlR16 rr | popR16stk rr | pushR16stk rr =>
    cases rr <;> exact roundTrips_of_one rfl rfl rfl
  case incR8 r | decR8 r => cases r <;> exact roundTrips_of_one rfl rfl rfl
  case ldR8Imm8 r n => cases r <;> exact roundTrips_of_two rfl rfl rfl
  case jrCondE8 cc e8 => cases cc <;> exact roundTrips_of_two rfl rfl rfl
  case retCond cc => cases cc <;> exact roundTrips_of_one rfl rfl rfl
  case rstTgt3 k => exact roundTrips_rstTgt3 k
  case addAR8 r => exact Proofs.decodes_aluR8 0 r
  case adcAR8 r => exact Proofs.decodes_aluR8 1 r
  case subAR8 r => exact Proofs.decodes_aluR8 2 r
  case sbcAR8 r => exact Proofs.decodes_aluR8 3 r
  case andAR8 r => exact Proofs.decodes_aluR8 4 r
  case xorAR8 r => exact Proofs.decodes_aluR8 5 r
  case orAR8 r => exact Proofs.decodes_aluR8 6 r
  case cpAR8 r => exact Proofs.decodes_aluR8 7 r
  case rlcR8 r => exact Proofs.decodes_rotR8 r 0
  case rrcR8 r => exact Proofs.decodes_rotR8 r 1
  case rlR8 r => exact Proofs.decodes_rotR8 r 2
  case rrR8 r => exact Proofs.decodes_rotR8 r 3
  case slaR8 r => exact Proofs.decodes_rotR8 r 4
  case sraR8 r => exact Proofs.decodes_rotR8 r 5
  case swapR8 r => exact Proofs.decodes_rotR8 r 6
  case srlR8 r => exact Proofs.decodes_rotR8 r 7
  case bitBR8 b r => exact Proofs.decodes_bitBR8 b r
  case resBR8 b r => exact Proofs.decodes_resBR8 b r
  case setBR8 b r => exact Proofs.decodes_setBR8 b r
  case addAImm8 n | adcAImm8 n | subAImm8 n | sbcAImm8 n | andAImm8 n | xorAImm8 n | orAImm8 n | cpAImm8 n
      | ldhImm8A n | ldhAImm8 n | jrE8 n | addSpE8 n | ldHlSpE8 n | stop n => exact roundTrips_of_two rfl rfl rfl
  all_goals exact roundTrips_of_one rfl rfl rfl

/-! ### What is decoded is well-formed -/

@[simp] theorem wellFormed_aluR8 (o : AluOp) (r : R8) : (aluR8 o r).wellFormed = true := by cases o <;> rfl
@[simp] theorem wellFormed_aluImm8 (o : AluOp) (n : Byte) : (aluImm8 o n).wellFormed = true := by cases o <;> rfl
@[simp] theorem wellFormed_rotR8 (o : RotOp) (r : R8) : (rotR8 o r).wellFormed = true := by cases o <;> rfl

@[simp] theorem wellFormed_decodeCb (cb : Byte) : (decodeCb cb).wellFormed = true := by
  unfold decodeCb
  split
  case h_1 => exact wellFormed_rotR8 ..
  all_goals rfl

theorem wellFormed_decodeBlock0 (op b1 b2 : Byte) : (decodeBlock0 op b1 b2).wellFormed = true := by
  unfold decodeBlock0
  repeat' split
  all_goals rfl

/-- R101: the byte that would be `LD (HL), (HL)` is HALT's. -/
theorem wellFormed_decodeBlock1 : ∀ op : Byte, fieldBlock op = 1 → (decodeBlock1 op).wellFormed = true := by decide

theorem wellFormed_decodeBlock3 (op b1 b2 : Byte) : (decodeBlock3 op b1 b2).wellFormed = true := by
  unfold decodeBlock3
  repeat' split
  all_goals simp only [↓wellFormed_decodeCb, ↓wellFormed_aluImm8, Instr.wellFormed]

/-- An opcode byte is in one of the four blocks, and the decoder reads it there. -/
theorem decodeOp_of_block (P : Instr → Prop) {op b1 b2 : Byte} (h0 : fieldBlock op = 0 → P (decodeBlock0 op b1 b2))
    (h1 : fieldBlock op = 1 → P (decodeBlock1 op)) (h2 : fieldBlock op = 2 → P (decodeBlock2 op))
    (h3 : fieldBlock op = 3 → P (decodeBlock3 op b1 b2)) : P (decodeOp op b1 b2) := by
  obtain h | h | h | h : fieldBlock op = 0 ∨ fieldBlock op = 1 ∨ fieldBlock op = 2 ∨ fieldBlock op = 3 := by bv_omega
  · simpa [decodeOp, h] using h0 h
  · simpa [decodeOp, h] using h1 h
  · simpa [decodeOp, h] using h2 h
  · simpa [decodeOp, h] using h3 h

theorem wellFormed_decodeOp (op b1 b2 : Byte) : (decodeOp op b1 b2).wellFormed = true :=
  decodeOp_of_block (·.wellFormed = true) (fun _ => wellFormed_decodeBlock0 op b1 b2) (wellFormed_decodeBlock1 op)
    (fun _ => wellFormed_aluR8 ..) (fun _ => wellFormed_decodeBlock3 op b1 b2)

/-! ### The words of what is decoded -/

theorem encode_aluImm8 (y : BitVec 3) (n : Byte) : encode (aluImm8 (AluOp.ofCode y) n) = [opYZ 0b11 y 0b110, n] := by
  have hop : ∀ y : BitVec 3, ∀ n, encode (aluImm8 (AluOp.ofCode y) n) = [(encode (aluImm8 (AluOp.ofCode y) 0)).headI, n] :=
    fun y n => by cases AluOp.ofCode y <;> rfl
  have hhead : ∀ y : BitVec 3, (encode (aluImm8 (AluOp.ofCode y) 0)).headI = opYZ 0b11 y 0b110 := by decide
  rw [hop, hhead]

/-- R104: every byte of the CB space is the second word of the instruction it decodes to. -/
theorem encode_decodeCb : ∀ cb : Byte, encode (decodeCb cb) = [0xCB, cb] := by decide

/-- Words whose first is `op`, whose number is the length by `op` and whose others are the bytes after `op`. -/
theorem cons_eq_take_opLength {op op' b1 b2 : Byte} {operands : List Byte} (hoperands : operands = [b1, b2].take operands.length)
    (h : op' = op ∧ opLength op = operands.length + 1) : op' :: operands = [op, b1, b2].take (opLength op) := by
  rw [h.1, h.2, List.take_succ_cons, ← hoperands]

/-- In each arm of block 0 the fields of the first byte, which name the arm, give that byte back and its length. -/
theorem encode_decodeBlock0 (op b1 b2 : Byte) (hblock : fieldBlock op = 0) :
    encode (decodeBlock0 op b1 b2) = [op, b1, b2].take (opLength op) := by
  unfold decodeBlock0
  split
  case' h_8 h0 h1 h2 h3 h4 h5 h6 =>
    have hz : fieldZ op = 7 := by
      simp only [imp_false] at h0 h1 h2 h3 h4 h5 h6
      bv_omega
    clear h0 h1 h2 h3 h4 h5 h6
  all_goals
    repeat' split
  all_goals
    simp only [encode, imm16Bytes_imm16OfBytes]
    refine cons_eq_take_opLength rfl ?_
    simp only [List.length_cons, List.length_nil]
    revert op
    decide

theorem encode_decodeBlock3 (op b1 b2 : Byte) (hblock : fieldBlock op = 3) :
    encode (decodeBlock3 op b1 b2) = [op, b1, b2].take (opLength op) := by
  unfold decodeBlock3
  repeat' split
  all_goals
    simp only [↓encode_decodeCb, ↓encode_aluImm8, encode, imm16Bytes_imm16OfBytes]
    refine cons_eq_take_opLength rfl ?_
    simp only [List.length_cons, List.length_nil]
    revert op
    decide

theorem encode_decodeBlock1 : ∀ op : Byte, fieldBlock op = 1 → encode (decodeBlock1 op) = [op] ∧ opLength op = 1 := by decide
theorem encode_decodeBlock2 : ∀ op : Byte, fieldBlock op = 2 → encode (decodeBlock2 op) = [op] ∧ opLength op = 1 := by decide

/-- R90, R91: the decoder reads as many bytes as the first one says, and they are the words of what it answers. -/
theorem encode_decodeOp (op b1 b2 : Byte) : encode (decodeOp op b1 b2) = [op, b1, b2].take (opLength op) := by
  refine decodeOp_of_block (encode · = [op, b1, b2].take (opLength op)) (encode_decodeBlock0 op b1 b2) (fun h => ?_) (fun h => ?_)
    (encode_decodeBlock3 op b1 b2)
  · obtain ⟨henc, hlen⟩ := encode_decodeBlock1 op h
    rw [henc, hlen, List.take_succ_cons, List.take_zero]
  · obtain ⟨henc, hlen⟩ := encode_decodeBlock2 op h
    rw [henc, hlen, List.take_succ_cons, List.take_zero]

theorem opLength_bounds : ∀ op : Byte, 1 ≤ opLength op ∧ opLength op ≤ 3 := by decide

theorem length_encode (i : Instr) : (encode i).length = i.length := by cases i <;> rfl

theorem length_decodeOp (op b1 b2 : Byte) : (decodeOp op b1 b2).length = opLength op := by
  rw [← length_encode, encode_decodeOp, List.length_take]
  exact Nat.min_eq_left (opLength_bounds op).2

/-- Well-formed instructions with the same words are the same, since the decoder reads both from those words. -/
theorem eq_of_encode_eq {i j : Instr} (hi : i.wellFormed = true) (hj : j.wellFormed = true) (h : encode i = encode j) : i = j := by
  have hdec : (.ok (i, []) : Except DecodeError (Instr × List Byte)) = .ok (j, []) := by
    rw [← roundTrips_of_wellFormed hi [], ← roundTrips_of_wellFormed hj [], h]
  simpa using hdec

/-- R91: bytes beyond the length are not looked at. -/
theorem decodeOp_eq_of_take_eq {op b1 b2 c1 c2 : Byte} (h : [op, c1, c2].take (opLength op) = [op, b1, b2].take (opLength op)) :
    decodeOp op c1 c2 = decodeOp op b1 b2 :=
  eq_of_encode_eq (wellFormed_decodeOp ..) (wellFormed_decodeOp ..) (by rw [encode_decodeOp, encode_decodeOp, h])

/-- The decoder over a list is `decodeOp` of its first byte and, where the list has them, of the two after it. -/
theorem decode_eq_ok {bytes rest : List Byte} {i : Instr} (h : decode bytes = .ok (i, rest)) :
    ∃ op b1 b2, i = decodeOp op b1 b2 ∧ bytes = [op, b1, b2].take (opLength op) ++ rest := by
  cases bytes with
  | nil => simp [decode] at h
  | cons op tail =>
    simp only [decode] at h
    split at h
    case h_1 tail _ _ hlen =>
      obtain ⟨rfl, rfl⟩ : decodeOp op 0 0 = i ∧ tail = rest := by simpa using h
      exact ⟨op, 0, 0, rfl, by rw [hlen]; rfl⟩
    case h_2 b1 tail hlen =>
      obtain ⟨rfl, rfl⟩ : decodeOp op b1 0 = i ∧ tail = rest := by simpa using h
      exact ⟨op, b1, 0, rfl, by rw [hlen]; rfl⟩
    case h_3 b1 b2 tail hlen =>
      obtain ⟨rfl, rfl⟩ : decodeOp op b1 b2 = i ∧ tail = rest := by simpa using h
      exact ⟨op, b1, b2, rfl, by rw [hlen]; rfl⟩
    case h_4 => simp at h

end Sys2Proof

namespace Sys2Proof.Machine

/-! ### The row of 0xCB is the CB-space instruction of its second byte (R111) -/

theorem fieldBlock_toNat_cases (op : Byte) :
    (fieldBlock op).toNat = 0 ∨ (fieldBlock op).toNat = 1 ∨ (fieldBlock op).toNat = 2 ∨ (fieldBlock op).toNat = 3 := by bv_omega

theorem exec_prefixCb (cb : Byte) (s : State) : exec (.prefixCb cb) s = exec (decodeCb cb) s := by
  show execPrefixCb cb s = _
  obtain h | h | h | h := fieldBlock_toNat_cases cb <;> simp only [execPrefixCb, decodeCb, h]
  · rw [exec_rotR8, rotateR8_eq_next]
  all_goals rfl

theorem dataAccesses_prefixCb (cb : Byte) (s : State) : dataAccesses (.prefixCb cb) s = dataAccesses (decodeCb cb) s := by
  obtain h | h | h | h := fieldBlock_toNat_cases cb <;> simp only [dataAccesses.eq_def (.prefixCb cb), decodeCb, h]
  · rw [dataAccesses_rotR8]
  all_goals rfl

theorem cycles_prefixCb (cb : Byte) (s : State) : cycles (.prefixCb cb) s = cycles (decodeCb cb) s := by
  have hcount : cycles (.prefixCb cb) s = r8Cycles (R8.ofCode (fieldZ cb)) 2 (if fieldBlock cb = 1 then 3 else 4) := rfl
  unfold decodeCb
  split
  case h_2 h =>
    have hbit : fieldBlock cb = 1 := by bv_omega
    rw [hcount, if_pos hbit]; rfl
  case h_1 h =>
    have hnot : fieldBlock cb ≠ 1 := fun hb => by simp [hb] at h
    rw [hcount, if_neg hnot, cycles_rotR8]
  case h_3 h | h_4 _ h _ =>
    have hnot : fieldBlock cb ≠ 1 := fun hb => by simp [hb] at h
    rw [hcount, if_neg hnot]; rfl

theorem State.setR8_setFlags_flags (r : R8) (v : Byte) (s : State) : (s.setR8 r v).setFlags s.flags = s.setR8 r v := by
  cases r <;> rfl

/-- Everything an instruction of the CB space can do: BIT writes the flags, the others write an operand (R182, R190 to R192). -/
theorem exec_decodeCb_cases {cb : Byte} {s t : State} (h : exec (decodeCb cb) s = .next t) :
    (∃ f, t = (s.setFlags f).advance 2) ∨ ∃ r v f, t = ((s.setR8 r v).setFlags f).advance 2 := by
  unfold decodeCb at h
  split at h
  case h_1 =>
    obtain rfl := Host.Outcome.next.inj ((exec_rotR8 ..).symm.trans h)
    exact .inr ⟨_, _, _, rfl⟩
  case h_2 =>
    obtain rfl := Host.Outcome.next.inj h
    exact .inl ⟨_, rfl⟩
  case h_3 | h_4 =>
    obtain rfl := Host.Outcome.next.inj h
    exact .inr ⟨_, _, s.flags, by rw [State.setR8_setFlags_flags]⟩

/-- The CB space takes PC past both bytes. -/
theorem pc_of_exec_decodeCb {cb : Byte} {s t : State} (h : exec (decodeCb cb) s = .next t) : t.pc = s.pc + 2 := by
  obtain ⟨f, rfl⟩ | ⟨r, v, f, rfl⟩ := exec_decodeCb_cases h <;> simp

end Sys2Proof.Machine

namespace Sys2Proof.Proofs

open Sys2Proof.Machine Sys2Proof.Claims

/-- Settles O1: a split over the constructors; each word's fields are those of the arm of the decoder that reads it. -/
theorem decodeEncodeRoundTrip : Obligations.DecodeEncodeRoundTrip := by
  unfold Obligations.DecodeEncodeRoundTrip
  exact fun _ hwf => roundTrips_of_wellFormed hwf

/-- Settles O2: a split over the arms of the decoder; the fields that lead to an arm are those its instruction is encoded with. -/
theorem encodeDecodeRoundTrip : Obligations.EncodeDecodeRoundTrip := by
  unfold Obligations.EncodeDecodeRoundTrip
  intro bytes rest i h
  obtain ⟨op, b1, b2, rfl, rfl⟩ := decode_eq_ok h
  exact ⟨wellFormed_decodeOp op b1 b2, by rw [encode_decodeOp]⟩

/-- Settles O4: each word is the encoding of its instruction, evaluated. -/
theorem specWordsDecode : Obligations.SpecWordsDecode := by
  unfold Obligations.SpecWordsDecode
  have hword {i : Instr} {word : List Byte} (hwf : i.wellFormed = true) (henc : encode i = word) : Decodes word i :=
    henc ▸ roundTrips_of_wellFormed hwf
  repeat' apply And.intro
  all_goals exact hword rfl rfl

/-- Settles O5: the words of what is decoded are as many as the first byte says, and they determine the instruction. -/
theorem lengthByFirstByteAlone : Obligations.LengthByFirstByteAlone := by
  unfold Obligations.LengthByFirstByteAlone
  intro op b1 b2
  obtain ⟨hge, hle⟩ := opLength_bounds op
  refine ⟨length_decodeOp op b1 b2, hge, hle, fun hlen c1 c2 => ?_, fun hlen c2 => ?_⟩
  · exact decodeOp_eq_of_take_eq (by rw [hlen]; rfl)
  · exact decodeOp_eq_of_take_eq (by rw [hlen]; rfl)

/-- Settles O6: meaning, count and encoding of the row agree with the CB-space instruction in each of its four blocks. -/
theorem prefixRunsCbInstruction : Obligations.PrefixRunsCbInstruction := by
  unfold Obligations.PrefixRunsCbInstruction
  intro cb s
  have hexec := exec_prefixCb cb s
  obtain ⟨t, ht⟩ := exec_goes_on (isUndefined_decodeCb cb) s
  exact ⟨decodes_cb rfl, hexec, cycles_prefixCb cb s, t, hexec.trans ht, pc_of_exec_decodeCb ht⟩

end Sys2Proof.Proofs

/-! PROOFS. Family other: what every instruction does to the control fields, to memory and to PC, each said once. -/

namespace Sys2Proof.Machine

/-! ### Rules about all instructions -/

/-- A rule about every instruction follows from the rule about the instructions of the encoding: the row of 0xCB takes it over
from the CB-space instruction of its second byte (R111). -/
theorem forall_instr {P : Instr → Prop} (hcb : ∀ cb, P (decodeCb cb) → P (.prefixCb cb))
    (h : ∀ i, (∀ cb, i ≠ .prefixCb cb) → P i) (i : Instr) : P i := by
  cases i
  case prefixCb cb =>
    refine hcb cb (h _ fun cb' hcb' => ?_)
    have hwf := wellFormed_decodeCb cb
    rw [hcb'] at hwf
    exact absurd hwf (by simp [Instr.wellFormed])
  all_goals exact h _ nofun

/-! ### `State.setHl` leaves all but H and L -/

section

variable (s : State) (w : Word)

@[simp] theorem State.setHl_flags : (s.setHl w).flags = s.flags := rfl
@[simp] theorem State.setHl_pc : (s.setHl w).pc = s.pc := rfl
@[simp] theorem State.setHl_ime : (s.setHl w).ime = s.ime := rfl
@[simp] theorem State.setHl_imePending : (s.setHl w).imePending = s.imePending := rfl
@[simp] theorem State.setHl_halted : (s.setHl w).halted = s.halted := rfl
@[simp] theorem State.setHl_stopped : (s.setHl w).stopped = s.stopped := rfl
@[simp] theorem State.setHl_mem : (s.setHl w).mem = s.mem := rfl

end

/-! ### The control fields (R34 to R38) -/

/-- What an instruction leaves in IME; `exec_control` ties this and the three after it to the model. -/
def imeAfter : Instr → Bool → Bool
  | .di, _ => false
  | .reti, _ => true
  | _, v => v

/-- What an instruction leaves in ime_pending. -/
def pendingAfter : Instr → Nat → Nat
  | .di, _ => 0
  | .ei, _ => 1
  | _, n => n

/-- What an instruction leaves in `halted`. -/
def haltedAfter : Instr → Bool → Bool
  | .halt, _ => true
  | _, v => v

/-- What an instruction leaves in `stopped`. -/
def stoppedAfter : Instr → Bool → Bool
  | .stop _, _ => true
  | _, v => v

/-- The four control fields of `t` are what `i` leaves of those of `s`. -/
structure ControlAfter (i : Instr) (s t : State) : Prop where
  ime : t.ime = imeAfter i s.ime
  imePending : t.imePending = pendingAfter i s.imePending
  halted : t.halted = haltedAfter i s.halted
  stopped : t.stopped = stoppedAfter i s.stopped

/-- Only DI, EI, RETI, HALT and STOP write a control field. -/
theorem exec_control {i : Instr} {s t : State} (h : exec i s = .next t) : ControlAfter i s t := by
  cases i
  case prefixCb cb =>
    obtain ⟨f, rfl⟩ | ⟨r, v, f, rfl⟩ := exec_decodeCb_cases (exec_prefixCb cb s ▸ h)
    all_goals constructor <;> simp [imeAfter, pendingAfter, haltedAfter, stoppedAfter]
  case undefinedD3 | undefinedDB | undefinedDD | undefinedE3 | undefinedE4 | undefinedEB | undefinedEC | undefinedED
      | undefinedF4 | undefinedFC | undefinedFD => exact nomatch h
  case jrCondE8 cc _ | retCond cc | jpCondImm16 cc _ | callCondImm16 cc _ =>
    obtain rfl := Host.Outcome.next.inj h
    cases condHolds cc s.flags <;> exact ⟨rfl, rfl, rfl, rfl⟩
  all_goals
    obtain rfl := Host.Outcome.next.inj h
    constructor <;> simp [imeAfter, pendingAfter, haltedAfter, stoppedAfter]

/-! ### Memory (R73) -/

section

variable (s : State)

@[simp] theorem performWrites_r8Read (r : R8) (s₀ : State) : performWrites (r8Read r s₀) s = s := by
  unfold r8Read
  split <;> rfl

@[simp] theorem performWrites_readAt (x : Word) (l : List BusAccess) (s₀ : State) :
    performWrites (readAt x s₀ :: l) s = performWrites l s := rfl

@[simp] theorem performWrites_popAccesses (s₀ : State) : performWrites (popAccesses s₀) s = s := rfl

@[simp] theorem mem_write16 (x v : Word) : (s.write16 x v).mem = (performWrites (write16Accesses x v) s).mem := rfl
@[simp] theorem mem_push16 (v : Word) : (s.push16 v).mem = (performWrites (pushAccesses v s) s).mem := rfl
@[simp] theorem mem_callTo (r x : Word) : (s.callTo r x).mem = (performWrites (pushAccesses r s) s).mem := rfl

theorem mem_setR8 (r : R8) (v : Byte) : (s.setR8 r v).mem = (performWrites (r8Write r v s) s).mem := by
  cases r <;> rfl

theorem mem_setR8_r8Modify (r : R8) (v : Byte) : (s.setR8 r v).mem = (performWrites (r8Modify r v s) s).mem := by
  rw [r8Modify, performWrites_append, performWrites_r8Read, mem_setR8]

end

/-- Memory after an instruction is memory with the listed writes performed. -/
theorem exec_mem {i : Instr} {s t : State} (h : exec i s = .next t) : t.mem = (performWrites (dataAccesses i s) s).mem := by
  revert h
  refine forall_instr (P := fun i => exec i s = .next t → t.mem = (performWrites (dataAccesses i s) s).mem)
    (fun cb hcb h => ?_) (fun i hi h => ?_) i
  · rw [dataAccesses_prefixCb]
    exact hcb (exec_prefixCb cb s ▸ h)
  cases i
  case prefixCb cb => exact absurd rfl (hi cb)
  case undefinedD3 | undefinedDB | undefinedDD | undefinedE3 | undefinedE4 | undefinedEB | undefinedEC | undefinedED
      | undefinedF4 | undefinedFC | undefinedFD => exact nomatch h
  case jrCondE8 cc _ | jpCondImm16 cc _ | retCond cc | callCondImm16 cc _ =>
    obtain rfl := Host.Outcome.next.inj h
    cases hcc : condHolds cc s.flags <;> simp [dataAccesses, hcc]
  case incR8 r | decR8 r | rlcR8 r | rrcR8 r | rlR8 r | rrR8 r | slaR8 r | sraR8 r | swapR8 r | srlR8 r | resBR8 b r | setBR8 b r =>
    obtain rfl := Host.Outcome.next.inj h
    exact mem_setR8_r8Modify s r _
  case ldR8Imm8 r n =>
    obtain rfl := Host.Outcome.next.inj h
    exact mem_setR8 s r n
  case ldR8R8 dst src =>
    obtain rfl := Host.Outcome.next.inj h
    simp [dataAccesses, performWrites_append, mem_setR8]
  all_goals
    obtain rfl := Host.Outcome.next.inj h
    simp [dataAccesses]

/-! ### PC (R289) -/

/-- An instruction outside the transfers leaves PC its own length further. -/
theorem exec_pc {i : Instr} {s t : State} (htransfers : Claims.transfers i = false) (h : exec i s = .next t) :
    t.pc = s.pc + BitVec.ofNat 16 i.length := by
  cases i
  case prefixCb cb => exact pc_of_exec_decodeCb (exec_prefixCb cb s ▸ h)
  case undefinedD3 | undefinedDB | undefinedDD | undefinedE3 | undefinedE4 | undefinedEB | undefinedEC | undefinedED
      | undefinedF4 | undefinedFC | undefinedFD => exact nomatch h
  case jrE8 | jrCondE8 | jpImm16 | jpCondImm16 | jpHl | callImm16 | callCondImm16 | ret | retCond | reti | rstTgt3 =>
    exact nomatch htransfers
  all_goals
    obtain rfl := Host.Outcome.next.inj h
    simp [Instr.length]

end Sys2Proof.Machine

/-! PROOFS. Family other: the step driver (R280 to R286), the invariant and the reachable states. -/

namespace Sys2Proof.Machine

/-! ### One step -/

variable {s t : State}

theorem idle_eq_false (hhalted : s.halted = false) (hstopped : s.stopped = false) : s.idle = false := by
  simp [State.idle, hhalted, hstopped]

theorem step_of_running (hidle : s.idle = false) : step s = tickResult s.imePending (exec (fetchInstr s) s) := by
  simp [step, hidle]

/-- Everything a step that goes on can do: stay where it is, or run the instruction fetched and tick. -/
theorem step_eq_next (h : step s = .next t) :
    (s.idle = true ∧ t = s) ∨ (s.idle = false ∧ ∃ u, exec (fetchInstr s) s = .next u ∧ t = imeTick s.imePending u) := by
  cases hidle : s.idle with
  | true => exact .inl ⟨rfl, (Host.Outcome.next.inj ((step_of_idle hidle).symm.trans h)).symm⟩
  | false => exact .inr ⟨rfl, tickResult_eq_next ((step_of_running hidle).symm.trans h)⟩

/-- R283: the bytes at PC decode to the instruction fetched. -/
theorem decode_bytes_at_pc (s : State) :
    let bytes := [s.read8 s.pc, s.read8 (s.pc + 1), s.read8 (s.pc + 2)]
    decode bytes = .ok (fetchInstr s, bytes.drop (opLength (s.read8 s.pc))) := by
  intro bytes
  have hwf : (fetchInstr s).wellFormed = true := wellFormed_decodeOp ..
  have hwords : encode (fetchInstr s) = bytes.take (opLength (s.read8 s.pc)) := encode_decodeOp ..
  rw [← roundTrips_of_wellFormed hwf, hwords, List.take_append_drop]

theorem eq_fetchInstr_of_decode {i : Instr} {rest : List Byte}
    (h : decode [s.read8 s.pc, s.read8 (s.pc + 1), s.read8 (s.pc + 2)] = .ok (i, rest)) : i = fetchInstr s :=
  (Prod.mk.inj (Except.ok.inj (h.symm.trans (decode_bytes_at_pc s)))).1

/-! ### The tick (R284) -/

section

variable (captured : Nat) (u : State)

@[simp] theorem imeTick_sp : (imeTick captured u).sp = u.sp := by unfold imeTick; split <;> rfl
@[simp] theorem imeTick_pc : (imeTick captured u).pc = u.pc := by unfold imeTick; split <;> rfl
@[simp] theorem imeTick_halted : (imeTick captured u).halted = u.halted := by unfold imeTick; split <;> rfl
@[simp] theorem imeTick_stopped : (imeTick captured u).stopped = u.stopped := by unfold imeTick; split <;> rfl
@[simp] theorem imeTick_mem : (imeTick captured u).mem = u.mem := by unfold imeTick; split <;> rfl
@[simp] theorem imeTick_reg8 (r : Reg8) : (imeTick captured u).reg8 r = u.reg8 r := by unfold imeTick; split <;> cases r <;> rfl

theorem imeTick_ime : (imeTick captured u).ime = if captured ≠ 0 ∧ u.imePending ≠ 0 then true else u.ime := by
  unfold imeTick; split <;> rfl

theorem imeTick_imePending : (imeTick captured u).imePending = if captured ≠ 0 ∧ u.imePending ≠ 0 then 0 else u.imePending := by
  unfold imeTick; split <;> rfl

/-- Where the instruction leaves ime_pending as it was, the tick completes a pending enable and nothing else (R286). -/
theorem imeTick_of_imePending_eq {captured : Nat} {u : State} (h : u.imePending = captured) :
    (imeTick captured u).imePending = 0 ∧ (imeTick captured u).ime = if captured ≠ 0 then true else u.ime := by
  rw [imeTick_ime, imeTick_imePending, h]
  by_cases hcaptured : captured = 0 <;> simp [hcaptured]

end

/-! ### Runs, and the interrupt enable after a step -/

/-- A state that a step answers again is the end of every run from it. -/
theorem run_of_step_self {M : Host.Core} {s : M.State} (hstep : M.step s = .next s) (n : Nat) : M.run n s = .next s := by
  induction n with
  | zero => rfl
  | succ n ih => rw [Host.Core.run, hstep]; exact ih

/-- R286: IME and ime_pending after a running step, by the instruction fetched. -/
theorem step_ime {s t : State} (hidle : s.idle = false) (hstep : step s = .next t) :
    t.ime = (if s.imePending ≠ 0 ∧ pendingAfter (fetchInstr s) s.imePending ≠ 0 then true else imeAfter (fetchInstr s) s.ime) ∧
    t.imePending = (if s.imePending ≠ 0 ∧ pendingAfter (fetchInstr s) s.imePending ≠ 0 then 0
      else pendingAfter (fetchInstr s) s.imePending) := by
  obtain ⟨h, -⟩ | ⟨-, u, hexec, rfl⟩ := step_eq_next hstep
  · simp [hidle] at h
  · have hcontrol := exec_control hexec
    rw [imeTick_ime, imeTick_imePending, hcontrol.ime, hcontrol.imePending]
    exact ⟨rfl, rfl⟩

theorem pendingAfter_of_ne {i : Instr} (hei : i ≠ .ei) (hdi : i ≠ .di) (n : Nat) : pendingAfter i n = n := by
  cases i
  case ei => exact absurd rfl hei
  case di => exact absurd rfl hdi
  all_goals rfl

theorem imeAfter_of_ne {i : Instr} (hdi : i ≠ .di) (hreti : i ≠ .reti) (v : Bool) : imeAfter i v = v := by
  cases i
  case di => exact absurd rfl hdi
  case reti => exact absurd rfl hreti
  all_goals rfl

theorem pendingAfter_one_of_ne {i : Instr} (hdi : i ≠ .di) : pendingAfter i 1 = 1 := by
  cases i
  case di => exact absurd rfl hdi
  all_goals rfl

theorem step_idle_of_ei {s t : State} (hidle : s.idle = false) (hei : fetchInstr s = .ei) (hstep : step s = .next t) :
    t.idle = false := by
  rw [step_of_exec_next hidle (u := (s.setImePending 1).advance 1) (by rw [hei]; rfl)] at hstep
  obtain rfl := Host.Outcome.next.inj hstep
  simpa [State.idle] using hidle

/-! ### The invariant -/

theorem wf_performWrites (l : List BusAccess) {s : State} (w : Memory.wf s.mem = true) : Memory.wf (performWrites l s).mem = true := by
  induction l generalizing s with
  | nil => exact w
  | cons b l ih =>
    cases b with
    | read x v => exact ih w
    | write x v => exact ih (State.wf_write8 x v w)

theorem eq_halt_of_haltedAfter {i : Instr} (h : haltedAfter i false = true) : i = .halt := by
  cases i
  case halt => rfl
  all_goals exact nomatch h

theorem eq_stop_of_stoppedAfter {i : Instr} (h : stoppedAfter i false = true) : ∃ pad, i = .stop pad := by
  cases i
  case stop pad => exact ⟨pad, rfl⟩
  all_goals exact nomatch h

/-- Only HALT and STOP make a running core idle, and they leave ime_pending. -/
theorem ControlAfter.imePending_of_idle {i : Instr} {s u : State} (h : ControlAfter i s u) (hidle : s.idle = false)
    (hu : u.idle = true) : u.imePending = s.imePending := by
  obtain ⟨hhalted, hstopped⟩ : s.halted = false ∧ s.stopped = false := by simpa [State.idle] using hidle
  have hi : haltedAfter i false = true ∨ stoppedAfter i false = true := by
    simpa [State.idle, h.halted, h.stopped, hhalted, hstopped] using hu
  rw [h.imePending]
  obtain hhalt | hstop := hi
  · rw [eq_halt_of_haltedAfter hhalt, pendingAfter]
    all_goals nofun
  · obtain ⟨pad, rfl⟩ := eq_stop_of_stoppedAfter hstop
    rfl

theorem ControlAfter.not_both {i : Instr} {s u : State} (h : ControlAfter i s u) (hidle : s.idle = false) :
    ¬ (u.halted = true ∧ u.stopped = true) := by
  obtain ⟨hhalted, hstopped⟩ : s.halted = false ∧ s.stopped = false := by simpa [State.idle] using hidle
  rintro ⟨hu, hu'⟩
  rw [h.halted, hhalted] at hu
  rw [h.stopped, hstopped, eq_halt_of_haltedAfter hu] at hu'
  exact nomatch hu'

theorem pendingAfter_le_one {i : Instr} {n : Nat} (h : n ≤ 1) : pendingAfter i n ≤ 1 := by
  unfold pendingAfter
  split
  · exact Nat.zero_le 1
  · exact Nat.le_refl 1
  · exact h

/-- A running step: the instruction keeps the invariant but for a pending enable, which the tick completes. -/
theorem State.Inv.step {s t : State} (h : s.Inv) (hstep : step s = .next t) : t.Inv := by
  obtain ⟨-, rfl⟩ | ⟨hidle, u, hexec, rfl⟩ := step_eq_next hstep
  · exact h
  have hcontrol := exec_control hexec
  refine ⟨?mem, ?pending, ?both, fun ht => ?idle⟩
  case mem =>
    rw [imeTick_mem, exec_mem hexec]
    exact wf_performWrites _ h.mem_wf
  case pending =>
    rw [imeTick_imePending]
    split
    · exact Nat.zero_le 1
    · rw [hcontrol.imePending]
      exact pendingAfter_le_one h.pending_le
  case both => simpa using hcontrol.not_both hidle
  case idle =>
    have hu : u.idle = true := by simpa [State.idle] using ht
    exact (imeTick_of_imePending_eq (hcontrol.imePending_of_idle hidle hu)).1

/-- The invariant is about memory, ime_pending, `halted` and `stopped` alone, and only the first may change here. -/
theorem State.Inv.congr {s t : State} (h : s.Inv) (hmem : Memory.wf t.mem = true) (hpending : t.imePending = s.imePending)
    (hhalted : t.halted = s.halted) (hstopped : t.stopped = s.stopped) : t.Inv where
  mem_wf := hmem
  pending_le := hpending ▸ h.pending_le
  not_both := by rw [hhalted, hstopped]; exact h.not_both
  idle_pending := by rw [hpending, State.idle, hhalted, hstopped]; exact h.idle_pending

theorem inv_resetWith_setMem (init : Config.Init) {m : Memory} (w : Memory.wf m = true) : ((State.resetWith init).setMem m).Inv where
  mem_wf := w
  pending_le := Nat.zero_le 1
  not_both := nofun
  idle_pending := fun _ => rfl

/-- An interrupt request clears `halted` and leaves `stopped` and ime_pending, whether it dispatches or not. -/
theorem State.Inv.requestInterrupt {s t : State} {n : Nat} (h : s.Inv) (hreq : requestInterrupt n s = .next t) : t.Inv := by
  have hwoken : (s.setHalted false).Inv :=
    ⟨h.mem_wf, h.pending_le, nofun, fun hidle => h.idle_pending (by simp [State.idle] at hidle ⊢; exact .inr hidle)⟩
  obtain ⟨-, ⟨-, rfl⟩ | ⟨-, rfl⟩⟩ := requestInterrupt_eq_next s hreq
  · exact hwoken.congr (State.wf_callTo _ _ h.mem_wf) rfl rfl rfl
  · exact hwoken

theorem State.Inv.control {s t : State} {op : ControlOp} (h : s.Inv) (hop : ControlOp.keepsControlFields op = true)
    (hcontrol : control op s = .next t) : t.Inv := by
  cases op
  case setIme | setImePending | setHalted | setStopped => exact nomatch hop
  case step => exact h.step hcontrol
  case requestInterrupt n => exact h.requestInterrupt hcontrol
  case reset init =>
    obtain rfl := Host.Outcome.next.inj hcontrol
    exact inv_resetWith_setMem init h.mem_wf
  case setReg8 r v =>
    obtain rfl := Host.Outcome.next.inj hcontrol
    cases r <;> exact h.congr h.mem_wf rfl rfl rfl
  case setReg16 r w =>
    obtain rfl := Host.Outcome.next.inj hcontrol
    cases r <;> exact h.congr h.mem_wf rfl rfl rfl
  case setFlag g v =>
    obtain rfl := Host.Outcome.next.inj hcontrol
    exact h.congr h.mem_wf rfl rfl rfl
  case poke x v =>
    obtain rfl := Host.Outcome.next.inj hcontrol
    exact h.congr (State.wf_write8 x v h.mem_wf) rfl rfl rfl

theorem Reachable.inv {s : State} (h : Reachable s) : s.Inv := by
  induction h with
  | reset init => exact inv_resetWith_setMem init (m := []) rfl
  | control op s t _ hop hcontrol ih => exact ih.control hop hcontrol

end Sys2Proof.Machine

namespace Sys2Proof.Proofs

open Sys2Proof.Machine Sys2Proof.Claims

/-- Settles O15: an idle step changes nothing; a running one is an instruction, whose effect on each field is known, and the tick. -/
theorem stepKeepsInvariant : Obligations.StepKeepsInvariant := by
  unfold Obligations.StepKeepsInvariant
  exact fun _ _ => State.Inv.step

/-- Settles O16: the reset registers meet the invariant over every canonical memory, the empty one among them. -/
theorem invariantAtReset : Obligations.InvariantAtReset := by
  unfold Obligations.InvariantAtReset
  have hinit (init : Config.Init) : (State.resetWith init).Inv := inv_resetWith_setMem init (m := []) rfl
  exact ⟨hinit Config.defaultInit, hinit⟩

/-- Settles O17: an induction over the operations of the environment; F is the byte of four flags in every state. -/
theorem reachableStatesAreLegal : Obligations.ReachableStatesAreLegal := by
  unfold Obligations.ReachableStatesAreLegal
  exact fun s h => ⟨h.inv, s.flags.toByte_and_lowNibble⟩

/-- Settles O7: the instruction the bytes at PC decode to is the one fetched, and the tick is the conditional of R284. -/
theorem stepRunsDecodedInstruction : Obligations.StepRunsDecodedInstruction := by
  unfold Obligations.StepRunsDecodedInstruction
  intro s i rest hhalted hstopped hdecode
  rw [step_of_running (idle_eq_false hhalted hstopped), ← eq_fetchInstr_of_decode hdecode]
  cases exec i s <;> rfl

/-- Settles O8: an idle step answers the state it began in, so any number of them does. -/
theorem idleStepsChangeNothing : Obligations.IdleStepsChangeNothing := by
  unfold Obligations.IdleStepsChangeNothing
  intro s n h
  have hidle : s.idle = true := by simpa [State.idle] using h
  have hcycles : stepCycles s = Config.idleCycles := if_pos hidle
  have haccesses : stepAccesses s = [] := if_pos hidle
  exact ⟨run_of_step_self (M := Sys2Proof.core) (step_of_idle hidle) n, hcycles, haccesses⟩

/-- Settles O9: each row of the table is the rule for IME and ime_pending at the instruction fetched. -/
theorem imeStateMachine : Obligations.ImeStateMachine := by
  unfold Obligations.ImeStateMachine
  intro s t hhalted hstopped hstep
  obtain ⟨hime, hpending⟩ := step_ime (idle_eq_false hhalted hstopped) hstep
  refine ⟨fun hi h0 => ?ei, fun hi h0 => ?eiPending, fun hi => ?di, fun hi => ?reti, fun hei hdi hreti h0 => ?other,
    fun hei hdi hreti h0 => ?otherPending⟩
  case ei | eiPending => simp [hime, hpending, hi, h0, imeAfter, pendingAfter]
  case di => simp [hime, hpending, hi, imeAfter, pendingAfter]
  case reti => by_cases h0 : s.imePending = 0 <;> simp [hime, hpending, hi, h0, imeAfter, pendingAfter]
  case other | otherPending => simp [hime, hpending, h0, pendingAfter_of_ne hei hdi, imeAfter_of_ne hdi hreti]

/-- Settles O10: the first step is the table's row for EI, which keeps the core running; the second begins with an enable pending. -/
theorem eiTakesEffectAfterTheNextInstruction : Obligations.EiTakesEffectAfterTheNextInstruction := by
  unfold Obligations.EiTakesEffectAfterTheNextInstruction
  intro s t u hhalted hstopped h0 hei hstep hstep'
  have hidle := idle_eq_false hhalted hstopped
  obtain ⟨hime, hpending⟩ := step_ime hidle hstep
  have h1 : t.imePending = 1 := by simp [hpending, hei, h0, pendingAfter]
  obtain ⟨hime', hpending'⟩ := step_ime (step_idle_of_ei hidle hei hstep) hstep'
  refine ⟨by simp [hime, hei, h0, imeAfter], fun hdi => ?di, fun hdi => ?other⟩
  case di => simp [hime', hpending', hdi, imeAfter, pendingAfter]
  case other => simp [hime', hpending', h1, pendingAfter_one_of_ne hdi]

end Sys2Proof.Proofs

/-! PROOFS. Family other: the undefined opcodes' reports, PC, and the accesses of a step (R70 to R78, R270, R289). -/

namespace Sys2Proof.Machine

/-! ### Undefined opcodes (R270, R300) -/

theorem undefinedRows_exec (s : State) : ∀ row ∈ Claims.undefinedRows, exec row.1 s = .fault (.undefinedOpcode row.2 s.pc) := by
  simp only [Claims.undefinedRows, List.forall_mem_cons]
  refine ⟨?_, ?_, ?_, ?_, ?_, ?_, ?_, ?_, ?_, ?_, ?_, nofun⟩
  all_goals rfl

theorem exec_decodeOp_of_undefined {op : Byte} (hop : op ∈ Claims.undefinedBytes) (b1 b2 : Byte) (s : State) :
    exec (decodeOp op b1 b2) s = .fault (.undefinedOpcode op s.pc) := by
  have hbytes : Claims.undefinedBytes = Claims.undefinedRows.map Prod.snd := rfl
  obtain ⟨row, hrow, rfl⟩ := List.mem_map.mp (hbytes ▸ hop)
  obtain ⟨hlen, hdec⟩ := undefinedRows_decodeOp row hrow
  have hsame : decodeOp row.2 b1 b2 = decodeOp row.2 0 0 := decodeOp_eq_of_take_eq (by rw [hlen]; rfl)
  rw [hsame, hdec]
  exact undefinedRows_exec s row hrow

theorem step_of_undefined {s : State} (hidle : s.idle = false) (hop : s.read8 s.pc ∈ Claims.undefinedBytes) :
    step s = .fault (.undefinedOpcode (s.read8 s.pc) s.pc) := by
  rw [step_of_running hidle, fetchInstr, exec_decodeOp_of_undefined hop]
  rfl

theorem stepReporting_of_undefined {s : State} (hidle : s.idle = false) (hop : s.read8 s.pc ∈ Claims.undefinedBytes) :
    stepReporting s = .next (imeTick s.imePending (undefinedHandled s), some (s.read8 s.pc, s.pc)) := by
  rw [stepReporting, step_of_undefined hidle hop]
  rfl

theorem stepReporting_of_next {s t : State} (hstep : step s = .next t) : stepReporting s = .next (t, none) := by
  rw [stepReporting, hstep]

/-! ### The accesses of an instruction: reads, then writes -/

/-- A list of accesses in the order of R70: reads, each answered from the memory of `s`, then writes, each to an address of its
own. -/
def Ordered (s : State) (l : List BusAccess) : Prop :=
  ∃ reads writes : List (Word × Byte),
    l = reads.map (fun p => BusAccess.read p.1 p.2) ++ writes.map (fun p => BusAccess.write p.1 p.2) ∧
    (∀ p ∈ reads, s.read8 p.1 = p.2) ∧ (writes.map Prod.fst).Nodup

section

variable (s : State)

theorem ordered_nil : Ordered s [] := ⟨[], [], rfl, nofun, List.nodup_nil⟩

theorem ordered_readAt_cons (x : Word) {l : List BusAccess} (h : Ordered s l) : Ordered s (readAt x s :: l) := by
  obtain ⟨reads, writes, rfl, hreads, hwrites⟩ := h
  exact ⟨(x, s.read8 x) :: reads, writes, rfl, List.forall_mem_cons.mpr ⟨rfl, hreads⟩, hwrites⟩

theorem ordered_write (x : Word) (v : Byte) : Ordered s [.write x v] := ⟨[], [(x, v)], rfl, nofun, List.nodup_singleton x⟩

theorem ordered_write16Accesses (x v : Word) : Ordered s (write16Accesses x v) :=
  ⟨[], [(x, loByte v), (x + 1, hiByte v)], rfl, nofun, by simp⟩

theorem ordered_pushAccesses (v : Word) : Ordered s (pushAccesses v s) := ordered_write16Accesses s (s.sp - 2) v

theorem ordered_popAccesses : Ordered s (popAccesses s) :=
  ordered_readAt_cons s _ (ordered_readAt_cons s _ (ordered_nil s))

theorem ordered_r8Write (r : R8) (v : Byte) : Ordered s (r8Write r v s) := by
  unfold r8Write
  split
  · exact ordered_write s s.hl v
  · exact ordered_nil s

theorem ordered_r8Read_append (r : R8) {l : List BusAccess} (h : Ordered s l) : Ordered s (r8Read r s ++ l) := by
  unfold r8Read
  split
  · exact ordered_readAt_cons s s.hl h
  · exact h

theorem ordered_r8Read (r : R8) : Ordered s (r8Read r s) := by
  simpa using ordered_r8Read_append s r (ordered_nil s)

theorem ordered_r8Modify (r : R8) (v : Byte) : Ordered s (r8Modify r v s) := ordered_r8Read_append s r (ordered_r8Write s r v)

/-- R70 for the data accesses of every instruction. -/
theorem ordered_dataAccesses (i : Instr) : Ordered s (dataAccesses i s) := by
  refine forall_instr (P := fun i => Ordered s (dataAccesses i s)) (fun cb hcb => ?_) (fun i hi => ?_) i
  · rw [dataAccesses_prefixCb]
    exact hcb
  cases i
  case prefixCb cb => exact absurd rfl (hi cb)
  case ldR8R8 dst src => exact ordered_r8Read_append s src (ordered_r8Write s dst _)
  case ldR8Imm8 dst n => exact ordered_r8Write s dst n
  case ldR16memA | ldImm16A | ldhCA | ldhImm8A => exact ordered_write s ..
  case ldAR16mem | ldAImm16 | ldhAC | ldhAImm8 => exact ordered_readAt_cons s _ (ordered_nil s)
  case ldImm16Sp n => exact ordered_write16Accesses s n s.sp
  case addAR8 r | adcAR8 r | subAR8 r | sbcAR8 r | andAR8 r | xorAR8 r | orAR8 r | cpAR8 r | bitBR8 b r => exact ordered_r8Read s r
  case incR8 r | decR8 r | rlcR8 r | rrcR8 r | rlR8 r | rrR8 r | slaR8 r | sraR8 r | swapR8 r | srlR8 r | resBR8 b r | setBR8 b r =>
    exact ordered_r8Modify s r _
  case pushR16stk | callImm16 | rstTgt3 => exact ordered_pushAccesses s _
  case popR16stk | ret | reti => exact ordered_popAccesses s
  case callCondImm16 cc n =>
    rw [dataAccesses]
    split
    · exact ordered_pushAccesses s _
    · exact ordered_nil s
  case retCond cc =>
    rw [dataAccesses]
    split
    · exact ordered_popAccesses s
    · exact ordered_nil s
  all_goals exact ordered_nil s

theorem performWrites_reads (reads : List (Word × Byte)) (l : List BusAccess) :
    performWrites (reads.map (fun p => BusAccess.read p.1 p.2) ++ l) s = performWrites l s := by
  induction reads with
  | nil => rfl
  | cons p reads ih => exact ih

theorem writtenAddrs_writes (writes : List (Word × Byte)) :
    writtenAddrs (writes.map fun p => BusAccess.write p.1 p.2) = writes.map Prod.fst := by
  induction writes with
  | nil => rfl
  | cons p writes ih => simp [ih]

/-- R78: a byte written to an address that no other write names is what is read there. -/
theorem read8_performWrites_of_mem {writes : List (Word × Byte)} {x : Word} {v : Byte}
    (hnodup : (writes.map Prod.fst).Nodup) (hmem : (x, v) ∈ writes) :
    (performWrites (writes.map fun p => BusAccess.write p.1 p.2) s).read8 x = v := by
  induction writes generalizing s with
  | nil => simp at hmem
  | cons p writes ih =>
    obtain ⟨hp, hnodup⟩ := List.nodup_cons.mp hnodup
    rw [List.map_cons, performWrites_write]
    obtain rfl | hmem := List.mem_cons.mp hmem
    · have hx : x ∉ writtenAddrs (writes.map fun p => BusAccess.write p.1 p.2) := by rwa [writtenAddrs_writes]
      rw [read8_performWrites_of_notMem _ hx, State.read8_write8, if_pos rfl]
    · exact ih (s.write8 p.1 p.2) hnodup hmem

theorem Ordered.read8_performWrites {l : List BusAccess} (h : Ordered s l) {x : Word} {v : Byte}
    (hmem : BusAccess.write x v ∈ l) : (performWrites l s).read8 x = v := by
  obtain ⟨reads, writes, rfl, -, hnodup⟩ := h
  rw [performWrites_reads]
  exact read8_performWrites_of_mem s hnodup (by simpa using hmem)

end

/-! ### Bytes of memory after an instruction and after a step -/

theorem read8_eq_of_mem_eq {s t : State} (h : t.mem = s.mem) (x : Word) : t.read8 x = s.read8 x := by
  rw [State.read8, h, State.read8]

theorem exec_read8 {i : Instr} {s t : State} (h : exec i s = .next t) (x : Word) :
    t.read8 x = (performWrites (dataAccesses i s) s).read8 x :=
  read8_eq_of_mem_eq (exec_mem h) x

/-- A running step accesses its instruction's bytes, then its data. -/
theorem stepAccesses_of_running {s : State} (hidle : s.idle = false) :
    stepAccesses s = fetchAccesses (fetchInstr s) s ++ dataAccesses (fetchInstr s) s := by
  simp [stepAccesses, hidle]

theorem performWrites_stepAccesses {s : State} (hidle : s.idle = false) :
    performWrites (stepAccesses s) s = performWrites (dataAccesses (fetchInstr s) s) s := by
  rw [stepAccesses_of_running hidle, performWrites_append, fetchAccesses, performWrites_map_readAt]

theorem step_read8 {s t : State} (hidle : s.idle = false) (hstep : step s = .next t) (x : Word) :
    t.read8 x = (performWrites (stepAccesses s) s).read8 x := by
  obtain ⟨h, -⟩ | ⟨-, u, hexec, rfl⟩ := step_eq_next hstep
  · simp [hidle] at h
  · rw [performWrites_stepAccesses hidle, ← exec_read8 hexec]
    exact read8_eq_of_mem_eq (imeTick_mem s.imePending u) x

/-- The reads of an instruction's bytes as pairs of address and byte; `fetchAccesses_eq_map` ties them to the model. -/
def fetchReads (i : Instr) (s : State) : List (Word × Byte) :=
  (List.range i.length).map fun k => (s.pc + BitVec.ofNat 16 k, s.read8 (s.pc + BitVec.ofNat 16 k))

theorem fetchAccesses_eq_map (i : Instr) (s : State) :
    fetchAccesses i s = (fetchReads i s).map fun p => BusAccess.read p.1 p.2 := by
  rw [fetchReads, List.map_map]
  rfl

theorem length_fetchReads (i : Instr) (s : State) : (fetchReads i s).length = i.length := by simp [fetchReads]

theorem fetchReads_answered (i : Instr) (s : State) : ∀ p ∈ fetchReads i s, s.read8 p.1 = p.2 := by
  simp [fetchReads]

theorem fetchReads_addrs (i : Instr) (s : State) :
    (fetchReads i s).map Prod.fst = (List.range i.length).map fun k => s.pc + BitVec.ofNat 16 k := by
  rw [fetchReads, List.map_map]
  rfl

theorem length_fetchInstr (s : State) : (fetchInstr s).length = opLength (s.read8 s.pc) := length_decodeOp ..

theorem write_mem_stepAccesses {s : State} (hidle : s.idle = false) {x : Word} {v : Byte} :
    BusAccess.write x v ∈ stepAccesses s ↔ BusAccess.write x v ∈ dataAccesses (fetchInstr s) s := by
  simp [stepAccesses_of_running hidle, fetchAccesses_eq_map]

/-- R77, R78: where memory reads as that of `m`, the instruction fetched is the one decoded there. -/
theorem fetchesFrom_of_read8 {m t : State} (h : ∀ x, t.read8 x = m.read8 x) : Claims.FetchesFrom m t := by
  rw [Claims.FetchesFrom, fetchInstr, h, h, h]

theorem fetchInstr_after_store (s : State) :
    fetchInstr ((s.write8 (s.pc + 3) s.a).advance 3) = decodeOp s.a (s.read8 (s.pc + 4)) (s.read8 (s.pc + 5)) := by
  have h4 : s.pc + 3 + 1 = s.pc + 4 := by bv_omega
  have h5 : s.pc + 3 + 2 = s.pc + 5 := by bv_omega
  have hne4 : s.pc + 4 ≠ s.pc + 3 := by bv_omega
  have hne5 : s.pc + 5 ≠ s.pc + 3 := by bv_omega
  simp only [fetchInstr, State.advance_pc, State.advance_read8, State.write8_pc, State.read8_write8, h4, h5, if_pos, if_neg hne4,
    if_neg hne5]

end Sys2Proof.Machine

namespace Sys2Proof.Proofs

open Sys2Proof.Machine Sys2Proof.Claims

/-- Settles O12: the eleven meanings raise the report, and a running step whose first byte is one of the eleven runs one of them. -/
theorem undefinedOpcodesFault : Obligations.UndefinedOpcodesFault := by
  unfold Obligations.UndefinedOpcodesFault
  exact fun s => ⟨undefinedRows_exec s, fun hhalted hstopped hop => step_of_undefined (idle_eq_false hhalted hstopped) hop⟩

/-- Settles O13: the report comes with PC one further and the tick, which sees ime_pending as it was before. -/
theorem reportingStepGoesOn : Obligations.ReportingStepGoesOn := by
  unfold Obligations.ReportingStepGoesOn
  refine fun s => ⟨fun hhalted hstopped hop => ?_, fun t => stepReporting_of_next⟩
  have hreport := stepReporting_of_undefined (idle_eq_false hhalted hstopped) hop
  obtain ⟨hpending, hime⟩ := imeTick_of_imePending_eq (captured := s.imePending) (u := undefinedHandled s) rfl
  refine ⟨_, hreport, ?pc, fun r _ => ?regs, ?sp, fun x => ?mem, ?halted, ?stopped, fun h0 => ⟨?kept, hpending⟩,
    fun h0 => ⟨?enabled, hpending⟩⟩
  case pc => exact imeTick_pc ..
  case regs => rw [imeTick_reg8]; cases r <;> rfl
  case sp => exact imeTick_sp ..
  case mem => exact read8_eq_of_mem_eq (imeTick_mem ..) x
  case halted => exact imeTick_halted ..
  case stopped => exact imeTick_stopped ..
  case kept => rw [hime, if_neg (not_not.mpr h0)]; rfl
  case enabled => rw [hime, if_pos h0]

/-- Settles O14: PC is moved by the length, as a 16-bit sum, in every instruction outside the transfers. -/
theorem pcAdvancesByLength : Obligations.PcAdvancesByLength := by
  unfold Obligations.PcAdvancesByLength
  intro i s t htransfers hexec
  rw [exec_pc htransfers hexec]
  simp

/-- Settles O24: memory after an instruction is memory with the listed writes performed, which leave every other address. -/
theorem memoryEffectIsTheListedWrites : Obligations.MemoryEffectIsTheListedWrites := by
  unfold Obligations.MemoryEffectIsTheListedWrites
  refine fun i s t hexec => ⟨exec_read8 hexec, fun x hx => ?_⟩
  rw [exec_read8 hexec, read8_performWrites_of_notMem s hx]

/-- Settles O25: the instruction's bytes are reads, and the data accesses of each instruction are reads, then writes. -/
theorem accessOrderWithinStep : Obligations.AccessOrderWithinStep := by
  unfold Obligations.AccessOrderWithinStep
  intro s hhalted hstopped
  obtain ⟨reads, writes, hdata, hreads, -⟩ := ordered_dataAccesses s (fetchInstr s)
  refine ⟨fetchReads (fetchInstr s) s ++ reads, writes, ?order, ?answers, ?first⟩
  case order =>
    rw [stepAccesses_of_running (idle_eq_false hhalted hstopped), hdata, fetchAccesses_eq_map, List.map_append, List.append_assoc]
  case answers => exact List.forall_mem_append.mpr ⟨fetchReads_answered _ s, hreads⟩
  case first =>
    rw [← length_fetchInstr, List.take_left' (length_fetchReads _ s), fetchReads_addrs]

/-- Settles O26: the writes of an instruction go to different addresses, so each is what is read there, by a fetch too. -/
theorem storeIsSeenByNextFetch : Obligations.StoreIsSeenByNextFetch := by
  unfold Obligations.StoreIsSeenByNextFetch
  refine ⟨fun i s t hexec => ⟨fun x v hmem => ?exec, ?execFetch⟩,
    fun s t hhalted hstopped hstep => ⟨fun x v hmem => ?step, ?stepFetch⟩, fun s t hexec => ?next⟩
  case exec =>
    rw [exec_read8 hexec]
    exact (ordered_dataAccesses s i).read8_performWrites s hmem
  case execFetch => exact fetchesFrom_of_read8 (exec_read8 hexec)
  case step =>
    have hidle := idle_eq_false hhalted hstopped
    rw [step_read8 hidle hstep, performWrites_stepAccesses hidle]
    exact (ordered_dataAccesses s _).read8_performWrites s ((write_mem_stepAccesses hidle).mp hmem)
  case stepFetch => exact fetchesFrom_of_read8 (step_read8 (idle_eq_false hhalted hstopped) hstep)
  case next =>
    obtain rfl := Host.Outcome.next.inj hexec
    exact fetchInstr_after_store s

end Sys2Proof.Proofs

/-! PROOFS. Family other: the flags an instruction leaves (R29), what N and H influence (R28), and the cycle counts (R352, R353). -/

namespace Sys2Proof.Machine

/-! ### Flags that are left -/

theorem State.setR16stk_flags {r : R16stk} (hr : r ≠ .af) (w : Word) (s : State) : (s.setR16stk r w).flags = s.flags := by
  cases r
  case af => exact absurd rfl hr
  all_goals rfl

/-- R29: the instructions of `writesNoFlag` write no flag. -/
theorem exec_flags {i : Instr} {s t : State} (hi : Claims.writesNoFlag i = true) (h : exec i s = .next t) : t.flags = s.flags := by
  cases i
  case popR16stk rr =>
    obtain rfl := Host.Outcome.next.inj h
    have hrr : (rr != .af) = true := hi
    exact State.setR16stk_flags (by simpa using hrr) ..
  case jrCondE8 cc _ | retCond cc | jpCondImm16 cc _ | callCondImm16 cc _ =>
    obtain rfl := Host.Outcome.next.inj h
    cases condHolds cc s.flags <;> rfl
  case ldR16Imm16 | ldR16memA | ldAR16mem | ldImm16Sp | ldR8Imm8 | ldR8R8 | ldhCA | ldhImm8A | ldImm16A | ldhAC | ldhAImm8 | ldAImm16
      | ldSpHl | incR16 | decR16 | pushR16stk | jrE8 | ret | reti | jpImm16 | jpHl | callImm16 | rstTgt3 | resBR8 | setBR8 | nop
      | di | ei | halt | stop =>
    obtain rfl := Host.Outcome.next.inj h
    simp
  all_goals cases hi

/-! ### N and H replaced -/

section

open Claims

variable (n h : Bool) (s : State)

theorem withNH_self : withNH s.flags.n s.flags.h s = s := rfl

@[simp] theorem withNH_a : (withNH n h s).a = s.a := rfl
@[simp] theorem withNH_c : (withNH n h s).c = s.c := rfl
@[simp] theorem withNH_hl : (withNH n h s).hl = s.hl := rfl
@[simp] theorem withNH_sp : (withNH n h s).sp = s.sp := rfl
@[simp] theorem withNH_pc : (withNH n h s).pc = s.pc := rfl
@[simp] theorem read8_withNH (x : Word) : (withNH n h s).read8 x = s.read8 x := rfl
@[simp] theorem getR8_withNH (r : R8) : (withNH n h s).getR8 r = s.getR8 r := by cases r <;> rfl
@[simp] theorem getR16_withNH (r : R16) : (withNH n h s).getR16 r = s.getR16 r := by cases r <;> rfl
@[simp] theorem r16memAddr_withNH (r : R16mem) : (withNH n h s).r16memAddr r = s.r16memAddr r := by cases r <;> rfl
@[simp] theorem condHolds_withNH (cc : Cond) : condHolds cc (withNH n h s).flags = condHolds cc s.flags := by cases cc <;> rfl

theorem getR16stk_withNH {r : R16stk} (hr : r ≠ .af) : (withNH n h s).getR16stk r = s.getR16stk r := by
  cases r
  case af => exact absurd rfl hr
  all_goals rfl

@[simp] theorem setA_withNH (v : Byte) : (withNH n h s).setA v = withNH n h (s.setA v) := rfl
@[simp] theorem setSp_withNH (v : Word) : (withNH n h s).setSp v = withNH n h (s.setSp v) := rfl
@[simp] theorem setPc_withNH (v : Word) : (withNH n h s).setPc v = withNH n h (s.setPc v) := rfl
@[simp] theorem setIme_withNH (v : Bool) : (withNH n h s).setIme v = withNH n h (s.setIme v) := rfl
@[simp] theorem setImePending_withNH (v : Nat) : (withNH n h s).setImePending v = withNH n h (s.setImePending v) := rfl
@[simp] theorem setHalted_withNH (v : Bool) : (withNH n h s).setHalted v = withNH n h (s.setHalted v) := rfl
@[simp] theorem setStopped_withNH (v : Bool) : (withNH n h s).setStopped v = withNH n h (s.setStopped v) := rfl
@[simp] theorem setFlags_withNH (f : Flags) : (withNH n h s).setFlags f = s.setFlags f := rfl
@[simp] theorem advance_withNH (v : Word) : (withNH n h s).advance v = withNH n h (s.advance v) := rfl
@[simp] theorem write8_withNH (x : Word) (v : Byte) : (withNH n h s).write8 x v = withNH n h (s.write8 x v) := rfl
@[simp] theorem write16_withNH (x v : Word) : (withNH n h s).write16 x v = withNH n h (s.write16 x v) := rfl
@[simp] theorem push16_withNH (v : Word) : (withNH n h s).push16 v = withNH n h (s.push16 v) := rfl
@[simp] theorem callTo_withNH (r x : Word) : (withNH n h s).callTo r x = withNH n h (s.callTo r x) := rfl
@[simp] theorem pop16_snd_withNH : (withNH n h s).pop16.2 = withNH n h s.pop16.2 := rfl
@[simp] theorem read16_withNH (x : Word) : (withNH n h s).read16 x = s.read16 x := rfl
@[simp] theorem returnToPopped_withNH : (withNH n h s).returnToPopped = withNH n h s.returnToPopped := rfl
@[simp] theorem returnFromInterrupt_withNH : (withNH n h s).returnFromInterrupt = withNH n h s.returnFromInterrupt := rfl
@[simp] theorem setR8_withNH (r : R8) (v : Byte) : (withNH n h s).setR8 r v = withNH n h (s.setR8 r v) := by cases r <;> rfl
@[simp] theorem setR16_withNH (r : R16) (w : Word) : (withNH n h s).setR16 r w = withNH n h (s.setR16 r w) := by cases r <;> rfl
@[simp] theorem r16memPost_withNH (r : R16mem) : (withNH n h s).r16memPost r = withNH n h (s.r16memPost r) := by cases r <;> rfl

/-- R251: POP AF writes all four flags. -/
theorem setR16stk_af_withNH (w : Word) : (withNH n h s).setR16stk .af w = s.setR16stk .af w := rfl

theorem setR16stk_withNH {r : R16stk} (hr : r ≠ .af) (w : Word) : (withNH n h s).setR16stk r w = withNH n h (s.setR16stk r w) := by
  cases r
  case af => exact absurd rfl hr
  all_goals rfl

/-- The ALU reads C at most of the flags, and writes all four. -/
theorem aluInstr_withNH (o : AluOp) (b : Byte) (len : Word) : aluInstr o b len (withNH n h s) = aluInstr o b len s := by
  cases o <;> rfl

theorem aluInstr_getR8_withNH (o : AluOp) (r : R8) (len : Word) :
    aluInstr o ((withNH n h s).getR8 r) len (withNH n h s) = aluInstr o (s.getR8 r) len s := by
  rw [getR8_withNH, aluInstr_withNH]

theorem modifyR8_withNH {f : Byte → Flags → Byte × Flags} (hf : ∀ v, f v (withNH n h s).flags = f v s.flags) (r : R8) :
    modifyR8 f r (withNH n h s) = modifyR8 f r s := by
  simp [modifyR8, hf]

/-- The rotates and shifts read C at most of the flags, and write all four. -/
theorem rotateR8_withNH (o : RotOp) (r : R8) : rotateR8 o r (withNH n h s) = rotateR8 o r s := by
  have hc : (withNH n h s).flags.c = s.flags.c := rfl
  simp [rotateR8, hc]

theorem execBitBR8_withNH (b : Fin 8) (r : R8) : execBitBR8 b r (withNH n h s) = execBitBR8 b r s := by
  have hflags (v : Byte) : bitFlags b v (withNH n h s).flags = bitFlags b v s.flags := rfl
  simp [execBitBR8, hflags]

theorem decodeCb_ne_daa : ∀ cb, decodeCb cb ≠ .daa := by decide
theorem decodeCb_ne_pushAf : ∀ cb, decodeCb cb ≠ .pushR16stk .af := by decide

/-- R28: any instruction but DAA and PUSH AF either writes N and H, the same whatever they were, or leaves them. -/
theorem exec_withNH {i : Instr} {s t : State} (hdaa : i ≠ .daa) (hpush : i ≠ .pushR16stk .af) (hexec : exec i s = .next t) :
    exec i (withNH n h s) = .next t ∨ exec i (withNH n h s) = .next (withNH n h t) := by
  revert hdaa hpush hexec
  refine forall_instr (P := fun i => i ≠ .daa → i ≠ .pushR16stk .af → exec i s = .next t →
    exec i (withNH n h s) = .next t ∨ exec i (withNH n h s) = .next (withNH n h t)) (fun cb hcb _ _ hexec => ?_)
    (fun i hi hdaa hpush hexec => ?_) i
  · rw [exec_prefixCb] at hexec ⊢
    exact hcb (decodeCb_ne_daa cb) (decodeCb_ne_pushAf cb) hexec
  cases i
  case prefixCb cb => exact absurd rfl (hi cb)
  case daa => exact absurd rfl hdaa
  case undefinedD3 | undefinedDB | undefinedDD | undefinedE3 | undefinedE4 | undefinedEB | undefinedEC | undefinedED
      | undefinedF4 | undefinedFC | undefinedFD => exact nomatch hexec
  case addAR8 r | adcAR8 r | subAR8 r | sbcAR8 r | andAR8 r | xorAR8 r | orAR8 r | cpAR8 r =>
    exact .inl ((aluInstr_getR8_withNH n h s _ r 1).trans hexec)
  case addAImm8 b | adcAImm8 b | subAImm8 b | sbcAImm8 b | andAImm8 b | xorAImm8 b | orAImm8 b | cpAImm8 b =>
    exact .inl ((aluInstr_withNH n h s _ b 2).trans hexec)
  case incR8 r | decR8 r => exact .inl ((modifyR8_withNH n h s (fun _ => rfl) r).trans hexec)
  case rlcR8 r | rrcR8 r | rlR8 r | rrR8 r | slaR8 r | sraR8 r | swapR8 r | srlR8 r =>
    exact .inl ((rotateR8_withNH n h s _ r).trans hexec)
  case bitBR8 b r => exact .inl ((execBitBR8_withNH n h s b r).trans hexec)
  case rlca | rrca | rla | rra | cpl | scf | ccf | addSpE8 | ldHlSpE8 => exact .inl hexec
  case addHlR16 r => cases r <;> exact .inl hexec
  case popR16stk rr =>
    obtain rfl := Host.Outcome.next.inj hexec
    by_cases hrr : rr = .af
    · subst hrr
      exact .inl (congrArg Host.Outcome.next (by simp [setR16stk_af_withNH]))
    · exact .inr (congrArg Host.Outcome.next (by simp [setR16stk_withNH n h _ hrr]))
  case pushR16stk rr =>
    obtain rfl := Host.Outcome.next.inj hexec
    have hrr : rr ≠ .af := fun hrr => hpush (by rw [hrr])
    exact .inr (congrArg Host.Outcome.next (by simp [getR16stk_withNH n h s hrr]))
  case jrCondE8 cc _ | retCond cc | jpCondImm16 cc _ | callCondImm16 cc _ =>
    obtain rfl := Host.Outcome.next.inj hexec
    refine .inr (congrArg Host.Outcome.next ?_)
    cases hcc : condHolds cc s.flags <;> simp [hcc, jrTarget]
  all_goals
    obtain rfl := Host.Outcome.next.inj hexec
    refine .inr (congrArg Host.Outcome.next ?_)
    simp [jrTarget]

end

/-! ### Cycle counts -/

section

variable (s : State)

theorem condHolds_eq_true_iff (cc : Cond) : condHolds cc s.flags = true ↔ Claims.Taken cc s := by
  cases cc <;> simp [condHolds, Claims.Taken, State.flag, Flags.get]

theorem condCycles_of_taken {cc : Cond} (hcc : Claims.Taken cc s) (taken notTaken : Nat) : condCycles cc s taken notTaken = taken :=
  if_pos ((condHolds_eq_true_iff s cc).mpr hcc)

theorem condCycles_of_not_taken {cc : Cond} (hcc : ¬ Claims.Taken cc s) (taken notTaken : Nat) :
    condCycles cc s taken notTaken = notTaken :=
  if_neg (mt (condHolds_eq_true_iff s cc).mp hcc)

theorem condCycles_congr {s s' : State} {cc : Cond} (h : Claims.Taken cc s ↔ Claims.Taken cc s') (taken notTaken : Nat) :
    condCycles cc s taken notTaken = condCycles cc s' taken notTaken := by
  have hcond : condHolds cc s.flags = condHolds cc s'.flags := by
    rw [Bool.eq_iff_iff, condHolds_eq_true_iff, condHolds_eq_true_iff, h]
  rw [condCycles, condCycles, hcond]

theorem one_le_r8Cycles (r : R8) {reg mem : Nat} (hreg : 1 ≤ reg) (hmem : 1 ≤ mem) : 1 ≤ r8Cycles r reg mem := by
  unfold r8Cycles
  split <;> assumption

theorem one_le_condCycles (cc : Cond) {taken notTaken : Nat} (htaken : 1 ≤ taken) (hnot : 1 ≤ notTaken) :
    1 ≤ condCycles cc s taken notTaken := by
  unfold condCycles
  split <;> assumption

theorem cycles_ldR8R8 (dst src : R8) : cycles (.ldR8R8 dst src) s = if dst = .hlInd ∨ src = .hlInd then 2 else 1 := rfl

theorem one_le_cycles (i : Instr) : 1 ≤ cycles i s := by
  cases i
  case incR8 r | decR8 r | ldR8Imm8 r _ | addAR8 r | adcAR8 r | subAR8 r | sbcAR8 r | andAR8 r | xorAR8 r | orAR8 r | cpAR8 r
      | rlcR8 r | rrcR8 r | rlR8 r | rrR8 r | slaR8 r | sraR8 r | swapR8 r | srlR8 r | bitBR8 b r | resBR8 b r | setBR8 b r =>
    exact one_le_r8Cycles r (by decide) (by decide)
  case jrCondE8 cc _ | retCond cc | jpCondImm16 cc _ | callCondImm16 cc _ => exact one_le_condCycles s cc (by decide) (by decide)
  case ldR8R8 dst src =>
    rw [cycles_ldR8R8]
    split <;> decide
  case prefixCb cb => exact one_le_r8Cycles (R8.ofCode (fieldZ cb)) (by decide) (by split <;> decide)
  all_goals exact Nat.le_of_ble_eq_true rfl

/-- R353: a count reads the state through the condition of a conditional family at most. -/
theorem cycles_congr {s s' : State} (h : ∀ cc, Claims.Taken cc s ↔ Claims.Taken cc s') (i : Instr) : cycles i s = cycles i s' := by
  cases i
  case jrCondE8 cc _ | retCond cc | jpCondImm16 cc _ | callCondImm16 cc _ => exact condCycles_congr (h cc) _ _
  all_goals rfl

theorem cycles_of_unconditional {i : Instr}
    (h : ∀ cc e8 n, i ≠ .jrCondE8 cc e8 ∧ i ≠ .jpCondImm16 cc n ∧ i ≠ .callCondImm16 cc n ∧ i ≠ .retCond cc) (s s' : State) :
    cycles i s = cycles i s' := by
  cases i
  case jrCondE8 cc e8 =>
    obtain ⟨hi, -⟩ := h cc e8 0
    exact absurd rfl hi
  case jpCondImm16 cc n =>
    obtain ⟨-, hi, -⟩ := h cc 0 n
    exact absurd rfl hi
  case callCondImm16 cc n =>
    obtain ⟨-, -, hi, -⟩ := h cc 0 n
    exact absurd rfl hi
  case retCond cc =>
    obtain ⟨-, -, -, hi⟩ := h cc 0 0
    exact absurd rfl hi
  all_goals rfl

end

end Sys2Proof.Machine

namespace Sys2Proof.Proofs

open Sys2Proof.Machine Sys2Proof.Claims

/-- Settles O58: the instructions of each column write the flags they do write from a record that keeps the one named. -/
theorem flagsUnchangedWhereTheMatrixSaysSo : Obligations.FlagsUnchangedWhereTheMatrixSaysSo := by
  unfold Obligations.FlagsUnchangedWhereTheMatrixSaysSo
  refine fun i s t hexec => ⟨fun hi => exec_flags hi hexec, ?c, ?z, ?n⟩
  case c =>
    rintro (⟨r, rfl⟩ | ⟨r, rfl⟩ | ⟨b, r, rfl⟩ | rfl)
    all_goals
      obtain rfl := Host.Outcome.next.inj hexec
      rfl
  case z =>
    rintro (⟨rr, rfl⟩ | rfl | rfl | rfl)
    all_goals
      obtain rfl := Host.Outcome.next.inj hexec
      rfl
  case n =>
    rintro rfl
    obtain rfl := Host.Outcome.next.inj hexec
    rfl

/-- Settles O59: the next state is the same where the instruction writes N and H, and the same but for them where it leaves them. -/
theorem subtractAndHalfCarryReadOnlyByDaaAndPushAf : Obligations.SubtractAndHalfCarryReadOnlyByDaaAndPushAf := by
  unfold Obligations.SubtractAndHalfCarryReadOnlyByDaaAndPushAf
  intro i s t n h hdaa hpush hexec
  obtain hsame | hleft := exec_withNH n h hdaa hpush hexec
  · exact ⟨t, hsame, t.flags.n, t.flags.h, (withNH_self t).symm⟩
  · exact ⟨withNH n h t, hleft, n, h, rfl⟩

/-- Settles O60: the counts are read off the table of R352, whose conditional rows alone look at the state. -/
theorem cycleCounts : Obligations.CycleCounts := by
  unfold Obligations.CycleCounts
  refine ⟨fun i s => one_le_cycles s i, fun i s s' h => cycles_congr h i, fun i s s' h => cycles_of_unconditional h s s',
    fun cc n rr s => ⟨rfl, fun hcc => ⟨condCycles_of_taken s hcc 6 3, condCycles_of_taken s hcc 5 2⟩,
      fun hcc => condCycles_of_not_taken s hcc 6 3, rfl, rfl, rfl, rfl⟩,
    fun dst src s hsrc => ⟨fun hdst => ?registers, ?memory⟩,
    fun b r s => ⟨fun i hi => ?modifies, cyclesByOperand_of_r8Cycles rfl⟩⟩
  case registers =>
    rw [Ne, regOf_eq_none_iff] at hsrc hdst
    rw [cycles_ldR8R8, if_neg (not_or.mpr ⟨hdst, hsrc⟩)]
  case memory => rw [cycles_ldR8R8, if_pos (.inl rfl)]
  case modifies =>
    simp only [cbModifies, List.mem_cons, List.not_mem_nil, or_false] at hi
    rcases hi with rfl | rfl | rfl | rfl | rfl | rfl | rfl | rfl | rfl | rfl
    all_goals exact cyclesByOperand_of_r8Cycles rfl

end Sys2Proof.Proofs

/-! PROOFS. Family other: loads and 16-bit arithmetic (spec/41_arith16.md, spec/44_loads.md), with the frames that other families share. -/

namespace Sys2Proof.Machine

open Claims

/-! ### Parts of a number -/

section

variable (w : Word) (v : Byte)

theorem and_0xF_toNat : (w &&& 0xF).toNat = w.toNat % 16 := by simp [Nat.and_two_pow_sub_one_eq_mod _ 4]
theorem and_0xFF_toNat : (w &&& 0xFF).toNat = w.toNat % 256 := by simp [Nat.and_two_pow_sub_one_eq_mod _ 8]
theorem and_0x0FFF_toNat : (w &&& 0x0FFF).toNat = w.toNat % 4096 := by simp [Nat.and_two_pow_sub_one_eq_mod _ 12]

/-- R11: the unsigned value of a sign-extended byte. -/
theorem sext16_toNat : ∀ v : Byte, (sext16 v).toNat = signedOffset v := by decide

theorem joinBytes_and (hi lo hi' lo' : Byte) : joinBytes hi lo &&& joinBytes hi' lo' = joinBytes (hi &&& hi') (lo &&& lo') :=
  BitVec.and_append

/-- R26: AF is written without its low nibble. -/
theorem joinBytes_hiByte_masked : joinBytes (hiByte w) (loByte w &&& 0xF0) = w &&& 0xFFF0 := by
  have hmask : (0xFFF0 : Word) = joinBytes 0xFF 0xF0 := rfl
  have hhi : hiByte w &&& 0xFF = hiByte w := BitVec.and_allOnes
  rw [hmask, ← joinBytes_hiByte_loByte w, joinBytes_and, hiByte_joinBytes, loByte_joinBytes, hhi]

theorem and_0xFFF0_toNat : (w &&& 0xFFF0).toNat = w.toNat - w.toNat % 16 := by
  have hmask : ∀ v : Byte, (v &&& 0xF0).toNat = v.toNat - v.toNat % 16 := by decide
  rw [← joinBytes_hiByte_masked, joinBytes_toNat, hmask, hiByte_toNat, loByte_toNat]
  omega

end

/-! ### The 8-bit registers -/

/-- R27, R44: a register reads back as written, F masked, and the others as before. -/
theorem State.reg8_setReg8 (r q : Reg8) (v : Byte) (s : State) :
    (s.setReg8 r v).reg8 q = if q = r then (if r = .f then v &&& 0xF0 else v) else s.reg8 q := by
  cases r <;> cases q
  case f.f => exact Flags.toByte_ofByte v
  all_goals rfl

theorem sameRegs_setReg8 (r : Reg8) (v : Byte) (s : State) : SameRegs [r] s (s.setReg8 r v) := by
  intro q hq
  rw [State.reg8_setReg8, if_neg (List.ne_of_not_mem_cons hq)]

theorem sameRegs_setFlags (f : Flags) (s : State) : SameRegs [.f] s (s.setFlags f) :=
  fun _ hq => s.reg8_setFlags_of_ne (List.ne_of_not_mem_cons hq) f

theorem sameRegs_trans {xs ys : List Reg8} {s t u : State} (hst : SameRegs xs s t) (htu : SameRegs ys t u) :
    SameRegs (xs ++ ys) s u := by
  intro q hq
  obtain ⟨hxs, hys⟩ := not_or.mp (mt List.mem_append.mpr hq)
  rw [htu q hys, hst q hxs]

theorem sameRegs_setBc (w : Word) (s : State) : SameRegs [.b, .c] s (s.setBc w) :=
  sameRegs_trans (sameRegs_setReg8 .b _ s) (sameRegs_setReg8 .c _ _)
theorem sameRegs_setDe (w : Word) (s : State) : SameRegs [.d, .e] s (s.setDe w) :=
  sameRegs_trans (sameRegs_setReg8 .d _ s) (sameRegs_setReg8 .e _ _)
theorem sameRegs_setHl (w : Word) (s : State) : SameRegs [.h, .l] s (s.setHl w) :=
  sameRegs_trans (sameRegs_setReg8 .h _ s) (sameRegs_setReg8 .l _ _)
theorem sameRegs_setAf (w : Word) (s : State) : SameRegs [.a, .f] s (s.setAf w) :=
  sameRegs_trans (sameRegs_setReg8 .a _ s) (sameRegs_setReg8 .f _ _)

/-! ### 16-bit operands by the names of the accessors -/

section

variable (s : State) (w : Word)

theorem getR16_eq_reg16 (rr : R16) : s.getR16 rr = s.reg16 (nameOfR16 rr) := by cases rr <;> rfl
theorem getR16stk_eq_reg16 (rr : R16stk) : s.getR16stk rr = s.reg16 (nameOfR16stk rr) := by cases rr <;> rfl

theorem reg16_setR16 (rr : R16) : (s.setR16 rr w).reg16 (nameOfR16 rr) = w := by
  rw [← getR16_eq_reg16, State.getR16_setR16]

theorem reg16_setR16stk (rr : R16stk) :
    (s.setR16stk rr w).reg16 (nameOfR16stk rr) = if rr = .af then w &&& 0xFFF0 else w := by
  cases rr
  case bc => exact s.bc_setBc w
  case de => exact s.de_setDe w
  case hl => exact s.hl_setHl w
  case af => exact (s.af_setA_setF (hiByte w) (loByte w)).trans (joinBytes_hiByte_masked w)

theorem sameRegs_setR16 (rr : R16) : SameRegs (halvesOfR16 rr) s (s.setR16 rr w) := by
  cases rr
  case bc => exact sameRegs_setBc w s
  case de => exact sameRegs_setDe w s
  case hl => exact sameRegs_setHl w s
  case sp => exact fun _ _ => rfl

theorem sameRegs_setR16stk (rr : R16stk) : SameRegs (halvesOfR16stk rr) s (s.setR16stk rr w) := by
  cases rr
  case bc => exact sameRegs_setBc w s
  case de => exact sameRegs_setDe w s
  case hl => exact sameRegs_setHl w s
  case af => exact sameRegs_setAf w s

theorem wroteR16_setR16_advance (rr : R16) (len : Word) : WroteR16 rr w.toNat s ((s.setR16 rr w).advance len) := by
  have hreg : ((s.setR16 rr w).advance len).reg16 (nameOfR16 rr) = (s.setR16 rr w).reg16 (nameOfR16 rr) := by cases rr <;> rfl
  refine ⟨congrArg BitVec.toNat (hreg.trans (reg16_setR16 s w rr)), sameRegs_setR16 s w rr, fun hrr => ?keptSp, ?control, fun x => ?mem⟩
  case keptSp =>
    cases rr
    case sp => exact absurd rfl hrr
    all_goals rfl
  case control => exact ⟨s.setR16_ime rr w, s.setR16_imePending rr w, s.setR16_halted rr w, s.setR16_stopped rr w⟩
  case mem => exact read8_eq_of_mem_eq (s.setR16_mem rr w) x

end

/-! ### Only PC changed -/

theorem pcFrame_setPc (x : Word) (s : State) : PcFrame s (s.setPc x) := ⟨fun _ _ => rfl, rfl, ⟨rfl, rfl, rfl, rfl⟩, fun _ => rfl⟩

theorem pcFrame_advance (len : Word) (s : State) : PcFrame s (s.advance len) := pcFrame_setPc (s.pc + len) s

/-! ### A byte stored -/

theorem stored8_write8 (x : Word) (v : Byte) (s : State) : Stored8 x v s (s.write8 x v) :=
  ⟨by rw [State.read8_write8, if_pos rfl], fun y hy => by rw [State.read8_write8, if_neg (List.ne_of_not_mem_cons hy)]⟩

theorem sameRegs_write8 (x : Word) (v : Byte) (s : State) : SameRegs [] s (s.write8 x v) := by
  intro q _
  cases q <;> rfl

theorem sameRegs_write16 (x v : Word) (s : State) : SameRegs [] s (s.write16 x v) :=
  sameRegs_trans (sameRegs_write8 x _ s) (sameRegs_write8 (x + 1) _ _)

end Sys2Proof.Machine

namespace Sys2Proof.Proofs

open Sys2Proof.Machine Sys2Proof.Claims

/-! ### 16-bit arithmetic -/

/-- R162: the flags of ADD HL, on numbers. -/
theorem addHl_flags (hl v : Word) (f : Flags) :
    SetIff (addHl hl v f).2.h ((hl &&& 0x0FFF).toNat + (v &&& 0x0FFF).toNat > 0x0FFF) ∧
    SetIff (addHl hl v f).2.c (hl.toNat + v.toNat > 0xFFFF) := by
  simp only [SetIff, addHl, and_0x0FFF_toNat, decide_eq_true_iff, and_self]

theorem regFrame_setHl_setFlags_advance (w : Word) (f : Flags) (len : Word) (s : State) :
    RegFrame [.h, .l, .f] s (((s.setHl w).setFlags f).advance len) :=
  ⟨sameRegs_trans (sameRegs_setHl w s) (sameRegs_setFlags f (s.setHl w)), rfl, ⟨rfl, rfl, rfl, rfl⟩, fun _ => rfl⟩

/-- Settles O33: INC and DEC write the pair one more or less; ADD HL writes HL and the flags of the unbounded sum. -/
theorem wordArithmetic : Obligations.WordArithmetic := by
  unfold Obligations.WordArithmetic
  refine fun rr s => ⟨⟨_, rfl, ?incWrote, s.setR16_flags rr _, ?incPc⟩, ⟨_, rfl, ?decWrote, s.setR16_flags rr _, ?decPc⟩,
    ⟨_, rfl, ?add⟩⟩
  case incWrote =>
    have h : (s.getR16 rr + 1).toNat = ((s.reg16 (nameOfR16 rr)).toNat + 1) % 65536 := by
      rw [getR16_eq_reg16, BitVec.toNat_add]; rfl
    exact h ▸ wroteR16_setR16_advance s _ rr 1
  case decWrote =>
    have h : (s.getR16 rr - 1).toNat = ((s.reg16 (nameOfR16 rr)).toNat + 65535) % 65536 := by
      rw [getR16_eq_reg16]; bv_omega
    exact h ▸ wroteR16_setR16_advance s _ rr 1
  case incPc | decPc => exact congrArg (· + 1) (s.setR16_pc rr _)
  case add =>
    obtain ⟨hh, hc⟩ := addHl_flags s.hl (s.getR16 rr) s.flags
    rw [← getR16_eq_reg16]
    refine ⟨?sum, rfl, rfl, hh, hc, rfl, regFrame_setHl_setFlags_advance _ _ 1 s⟩
    exact (congrArg BitVec.toNat (s.hl_setHl _)).trans (BitVec.toNat_add ..)

/-- R163, R164: the sum and the flags, on numbers. -/
theorem addSpOffset_toNat (sp : Word) (e8 : Byte) : (addSpOffset sp e8).1.toNat = (sp.toNat + signedOffset e8) % 65536 := by
  rw [addSpOffset, BitVec.toNat_add, sext16_toNat]

theorem addSpOffset_flags (sp : Word) (e8 : Byte) :
    (addSpOffset sp e8).2.z = false ∧ (addSpOffset sp e8).2.n = false ∧
    SetIff (addSpOffset sp e8).2.h ((sp &&& 0xF).toNat + (e8 &&& 0xF).toNat > 0xF) ∧
    SetIff (addSpOffset sp e8).2.c ((sp &&& 0xFF).toNat + e8.toNat > 0xFF) := by
  simp only [SetIff, addSpOffset, and_0xF_toNat, and_0xFF_toNat, lowNibble_eq_toNat_and, decide_eq_true_iff, and_self]

/-- Settles O34: one sum and one set of flags, written to SP or to HL. -/
theorem stackPointerOffset : Obligations.StackPointerOffset := by
  unfold Obligations.StackPointerOffset
  refine fun e8 s => ⟨⟨_, rfl, addSpOffset_toNat s.sp e8, addSpOffset_flags s.sp e8, rfl, sameRegs_setFlags _ (s.setSp _),
      ⟨rfl, rfl, rfl, rfl⟩, fun _ => rfl⟩,
    ⟨_, rfl, ?sum, addSpOffset_flags s.sp e8, rfl, regFrame_setHl_setFlags_advance _ _ 2 s⟩⟩
  case sum => exact (congrArg BitVec.toNat (s.hl_setHl _)).trans (addSpOffset_toNat s.sp e8)

/-! ### Loads and stores -/

/-- Settles O40: an `R8` operand is written with the source's value, read before the write, or with the immediate. -/
theorem loadByteOperands : Obligations.LoadByteOperands := by
  unfold Obligations.LoadByteOperands
  refine fun dst src n s => ⟨⟨_, rfl, ?wrote, s.setR8_flags dst _, ?pc⟩,
    ⟨_, rfl, wroteR8_setR8_advance dst s n 2, s.setR8_flags dst n, congrArg (· + 2) (s.setR8_pc dst n)⟩, ?cycles,
    cyclesByOperand_of_r8Cycles rfl⟩
  case wrote =>
    rw [operand8_eq_getR8]
    exact wroteR8_setR8_advance dst s _ 1
  case pc => exact congrArg (· + 1) (s.setR8_pc dst _)
  case cycles => simp only [regOf_eq_none_iff, cycles_ldR8R8]

/-- Settles O41: the pair is written with the immediate; SP is written with HL. -/
theorem loadWords : Obligations.LoadWords := by
  unfold Obligations.LoadWords
  refine ⟨fun rr n s => ⟨_, rfl, wroteR16_setR16_advance s n rr 3, s.setR16_flags rr n, congrArg (· + 3) (s.setR16_pc rr n)⟩,
    fun s => ⟨_, rfl, rfl, fun _ _ => rfl, ⟨rfl, rfl, rfl, rfl⟩, fun _ => rfl, rfl⟩⟩

/-- R203: HL after an access through a pair. -/
theorem hl_r16memPost (rr : R16mem) (s : State) :
    (s.r16memPost rr).hl.toNat = match rr with
      | .bc | .de => s.hl.toNat
      | .hlInc => (s.hl.toNat + 1) % 65536
      | .hlDec => (s.hl.toNat + 65535) % 65536 := by
  cases rr
  case bc | de => rfl
  case hlInc => exact (congrArg BitVec.toNat (s.hl_setHl _)).trans (BitVec.toNat_add ..)
  case hlDec =>
    refine (congrArg BitVec.toNat (s.hl_setHl _)).trans ?_
    show (s.hl - 1).toNat = (s.hl.toNat + 65535) % 65536
    bv_omega

theorem sameRegs_r16memPost (rr : R16mem) (s : State) : SameRegs [.h, .l] s (s.r16memPost rr) := by
  cases rr
  case bc | de => exact fun _ _ => rfl
  case hlInc | hlDec => exact sameRegs_setHl _ s

theorem sameControl_r16memPost (rr : R16mem) (s : State) : SameControl s (s.r16memPost rr) :=
  ⟨s.r16memPost_ime rr, s.r16memPost_imePending rr, s.r16memPost_halted rr, s.r16memPost_stopped rr⟩

/-- Settles O42: the access uses the pair before `State.r16memPost` moves HL. -/
theorem loadThroughPair : Obligations.LoadThroughPair := by
  unfold Obligations.LoadThroughPair
  intro rr s addr hlAfter
  have haddr : s.r16memAddr rr = addr := by cases rr <;> rfl
  refine ⟨⟨_, rfl, haddr, ?stored, ?storeHl, ?storeRegs, ?storeSp, ?storeControl, ?storePc⟩,
    ⟨_, rfl, ?loaded, ?loadHl, ?loadFrame, ?loadPc⟩⟩
  case stored =>
    have hmem := read8_eq_of_mem_eq ((s.write8 (s.r16memAddr rr) s.a).r16memPost_mem rr)
    obtain ⟨hbyte, hothers⟩ := stored8_write8 (s.r16memAddr rr) s.a s
    exact ⟨(hmem _).trans hbyte, fun x hx => (hmem x).trans (hothers x hx)⟩
  case storeHl => exact hl_r16memPost rr (s.write8 (s.r16memAddr rr) s.a)
  case storeRegs => exact sameRegs_r16memPost rr (s.write8 (s.r16memAddr rr) s.a)
  case storeSp => exact State.r16memPost_sp _ rr
  case storeControl => exact sameControl_r16memPost rr (s.write8 (s.r16memAddr rr) s.a)
  case storePc => exact congrArg (· + 1) (State.r16memPost_pc _ rr)
  case loaded => exact (State.r16memPost_a _ rr).trans (congrArg s.read8 haddr)
  case loadHl => exact hl_r16memPost rr (s.setA _)
  case loadFrame =>
    have hregs := sameRegs_trans (sameRegs_setReg8 .a (s.read8 (s.r16memAddr rr)) s) (sameRegs_r16memPost rr _)
    exact ⟨hregs, State.r16memPost_sp _ rr, sameControl_r16memPost rr (s.setA _), read8_eq_of_mem_eq (State.r16memPost_mem _ rr)⟩
  case loadPc => exact congrArg (· + 1) (State.r16memPost_pc _ rr)

/-- What LD (imm16), A, LDH (C), A and LDH (imm8), A change: the byte stored, and PC. -/
theorem stores_write8_advance (x : Word) (v : Byte) (len : Word) (s : State) :
    let t := (s.write8 x v).advance len
    Stored8 x v s t ∧ SameRegs [] s t ∧ t.sp = s.sp ∧ SameControl s t ∧ t.pc = s.pc + len :=
  ⟨stored8_write8 x v s, sameRegs_write8 x v s, rfl, ⟨rfl, rfl, rfl, rfl⟩, rfl⟩

/-- What LD (imm16), SP changes: the two bytes stored, and PC. -/
theorem stores_write16_advance (x v : Word) (len : Word) (s : State) :
    let t := (s.write16 x v).advance len
    Stored16 x v s t ∧ SameRegs [] s t ∧ t.sp = s.sp ∧ SameControl s t ∧ t.pc = s.pc + len :=
  ⟨stored16_write16 s x v, sameRegs_write16 x v s, rfl, ⟨rfl, rfl, rfl, rfl⟩, rfl⟩

/-- What LD A, (imm16), LDH A, (C) and LDH A, (imm8) change: A, and PC. -/
theorem loads_setA_advance (v : Byte) (len : Word) (s : State) :
    let t := (s.setA v).advance len
    t.a = v ∧ RegFrame [.a] s t ∧ t.pc = s.pc + len :=
  ⟨rfl, ⟨sameRegs_setReg8 .a v s, rfl, ⟨rfl, rfl, rfl, rfl⟩, fun _ => rfl⟩, rfl⟩

/-- Settles O43: `State.write16`, `State.write8` and `State.setA` at the absolute address. -/
theorem loadAbsolute : Obligations.LoadAbsolute := by
  unfold Obligations.LoadAbsolute
  intro n s
  exact ⟨⟨_, rfl, stores_write16_advance n s.sp 3 s⟩, ⟨_, rfl, stores_write8_advance n s.a 3 s⟩,
    ⟨_, rfl, loads_setA_advance (s.read8 n) 3 s⟩⟩

/-- R209 to R212: an offset of the high page. -/
theorem highPage_toNat : ∀ n : Byte, (highPage n).toNat = 0xFF00 + n.toNat := by decide

/-- Settles O44: `State.write8` and `State.setA` at the address in the high page. -/
theorem loadHighPage : Obligations.LoadHighPage := by
  unfold Obligations.LoadHighPage
  intro n s
  exact ⟨highPage_toNat n, ⟨_, rfl, stores_write8_advance (highPage s.c) s.a 1 s⟩,
    ⟨_, rfl, stores_write8_advance (highPage n) s.a 2 s⟩, ⟨_, rfl, loads_setA_advance (s.read8 (highPage s.c)) 1 s⟩,
    ⟨_, rfl, loads_setA_advance (s.read8 (highPage n)) 2 s⟩⟩

end Sys2Proof.Proofs

/-! PROOFS. Family other: INC and DEC, rotates, and the miscellaneous instructions (spec/40_alu8.md section 4, spec/42_rotates_shifts.md,
spec/47_misc.md). -/

namespace Sys2Proof.Proofs

open Sys2Proof.Machine Sys2Proof.Claims

/-! ### INC and DEC of an `R8` operand -/

/-- R146 on numbers. -/
theorem inc8_eq (v : Byte) (f : Flags) :
    (inc8 v f).1 = BitVec.ofNat 8 (v.toNat + 1) ∧ SetIff (inc8 v f).2.z (v.toNat = 255) ∧
    SetIff (inc8 v f).2.h (v &&& 0xF = 0xF) := by
  have hz : ∀ v : Byte, v + 1 = 0 ↔ v.toNat = 255 := by decide
  have hh : ∀ v : Byte, lowNibble v = 0xF ↔ v &&& 0xF = 0xF := by decide
  refine ⟨?_, ?_, ?_⟩
  · simp [inc8, BitVec.ofNat_add]
  · simp only [SetIff, inc8, decide_eq_true_iff, hz]
  · simp only [SetIff, inc8, decide_eq_true_iff, hh]

/-- R147 on numbers. -/
theorem dec8_eq (v : Byte) (f : Flags) :
    (dec8 v f).1 = BitVec.ofNat 8 (v.toNat + 255) ∧ SetIff (dec8 v f).2.z (v.toNat = 1) ∧
    SetIff (dec8 v f).2.h (v &&& 0xF = 0) := by
  have hr : ∀ v : Byte, v - 1 = BitVec.ofNat 8 (v.toNat + 255) := by decide
  have hz : ∀ v : Byte, v - 1 = 0 ↔ v.toNat = 1 := by decide
  have hh : ∀ v : Byte, lowNibble v = 0 ↔ v &&& 0xF = 0 := by decide
  refine ⟨hr v, ?_, ?_⟩
  · simp only [SetIff, dec8, decide_eq_true_iff, hz]
  · simp only [SetIff, dec8, decide_eq_true_iff, hh]

/-- The byte at HL after a read-modify-write of `(HL)` is the one written. -/
theorem read8_setR8_hlInd (v : Byte) (s : State) : (s.setR8 .hlInd v).read8 s.hl = v := by
  rw [State.read8_setR8, if_pos ⟨rfl, rfl⟩]

/-- Settles O32: the operand is written with the result; the accesses of `(HL)` are the read and the write of that result. -/
theorem incDecByte : Obligations.IncDecByte := by
  unfold Obligations.IncDecByte
  intro r s
  rw [operand8_eq_getR8]
  obtain ⟨hinc, hincZ, hincH⟩ := inc8_eq (s.getR8 r) s.flags
  obtain ⟨hdec, hdecZ, hdecH⟩ := dec8_eq (s.getR8 r) s.flags
  refine ⟨⟨_, rfl, hinc ▸ wroteR8_setR8_setFlags_advance r s _ _ 1, hincZ, rfl, hincH, rfl, congrArg (· + 1) (s.setR8_pc r _)⟩,
    ⟨_, rfl, hdec ▸ wroteR8_setR8_setFlags_advance r s _ _ 1, hdecZ, rfl, hdecH, rfl, congrArg (· + 1) (s.setR8_pc r _)⟩,
    cyclesByOperand_of_r8Cycles rfl, cyclesByOperand_of_r8Cycles rfl, ?inc, ?dec⟩
  case inc | dec =>
    rintro rfl t hexec
    obtain rfl := Host.Outcome.next.inj hexec
    exact congrArg (fun v => [.read s.hl (s.read8 s.hl), BusAccess.write s.hl v]) (read8_setR8_hlInd _ s).symm

/-! ### Rotates -/

theorem regFrame_setA_setFlags_advance (v : Byte) (f : Flags) (len : Word) (s : State) :
    RegFrame [.a, .f] s (((s.setA v).setFlags f).advance len) :=
  ⟨sameRegs_trans (sameRegs_setReg8 .a v s) (sameRegs_setFlags f (s.setA v)), rfl, ⟨rfl, rfl, rfl, rfl⟩, fun _ => rfl⟩

/-- R170 to R173 for any operation: the result and the carry of the CB form, with Z clear. -/
theorem completes_rotateA {i : Instr} {s : State} (o : RotOp) (hexec : exec i s = rotateA o s) :
    Completes i s fun t =>
      t.a.toNat = rotResult o s.a.toNat (cyOf s) ∧ t.flags.z = false ∧ t.flags.n = false ∧ t.flags.h = false ∧
      SetIff t.flags.c (rotCarry o s.a.toNat) ∧ t.pc = s.pc + 1 ∧ RegFrame [.a, .f] s t :=
  ⟨_, hexec, rotate_toNat o s.a s.flags.c, rfl, rfl, rfl, rotate_carry_iff o s.a s.flags.c, rfl,
    regFrame_setA_setFlags_advance _ _ 1 s⟩

/-- Settles O35: the four are one rotate of A, by the operation. -/
theorem accumulatorRotates : Obligations.AccumulatorRotates := by
  unfold Obligations.AccumulatorRotates
  exact fun s => ⟨completes_rotateA .rlc rfl, completes_rotateA .rrc rfl, completes_rotateA .rl rfl, completes_rotateA .rr rfl⟩

/-- Settles O36: block 0 of the CB space with the indices 0 to 5; the results and carries are those of section 3. -/
theorem cbRotatesAndArithmeticShifts : Obligations.CbRotatesAndArithmeticShifts := by
  unfold Obligations.CbRotatesAndArithmeticShifts
  intro r s
  exact ⟨⟨decodes_rotR8 r 0, completes_rotR8 .rlc r s, cbRotCost_rotR8 .rlc r s⟩,
    ⟨decodes_rotR8 r 1, completes_rotR8 .rrc r s, cbRotCost_rotR8 .rrc r s⟩,
    ⟨decodes_rotR8 r 2, completes_rotR8 .rl r s, cbRotCost_rotR8 .rl r s⟩,
    ⟨decodes_rotR8 r 3, completes_rotR8 .rr r s, cbRotCost_rotR8 .rr r s⟩,
    ⟨decodes_rotR8 r 4, completes_rotR8 .sla r s, cbRotCost_rotR8 .sla r s⟩,
    ⟨decodes_rotR8 r 5, completes_rotR8 .sra r s, cbRotCost_rotR8 .sra r s⟩⟩

/-! ### NOP, CPL, SCF, CCF, DI, EI, HALT, STOP -/

/-- Settles O52: each writes A or the flags it names, from a record that keeps the others. -/
theorem nopCplScfCcf : Obligations.NopCplScfCcf := by
  unfold Obligations.NopCplScfCcf
  refine fun s => ⟨⟨_, rfl, rfl, pcFrame_advance 1 s⟩,
    ⟨_, rfl, ?complement, rfl, rfl, rfl, rfl, rfl, regFrame_setA_setFlags_advance _ _ 1 s⟩,
    ⟨_, rfl, rfl, rfl, rfl, rfl, rfl, regFrame_setFlags_advance s _ 1⟩,
    ⟨_, rfl, rfl, rfl, rfl, rfl, rfl, regFrame_setFlags_advance s _ 1⟩⟩
  show (~~~s.a).toNat = 255 - s.a.toNat
  exact BitVec.toNat_not

/-- Settles O55: each of the four writes its own control fields and PC. -/
theorem diEiHaltStop : Obligations.DiEiHaltStop := by
  unfold Obligations.DiEiHaltStop
  intro pad s
  refine ⟨⟨_, rfl, rfl, rfl, rfl, rfl, rfl, ?_⟩, ⟨_, rfl, rfl, rfl, rfl, rfl, rfl, ?_⟩, ⟨_, rfl, rfl, rfl, rfl, rfl, rfl, ?_⟩,
    ⟨_, rfl, rfl, rfl, rfl, rfl, rfl, ?_⟩⟩
  all_goals exact ⟨fun _ _ => rfl, rfl, fun _ => rfl⟩

/-! ### DAA -/

/-- R261 after an addition, on numbers: adding 0x60 leaves the low nibble, so both corrections look at the original A. -/
theorem daaAfterAdd_toNat (a : Byte) (h c : Bool) :
    (daaAfterAdd a h c).1.toNat =
      (a.toNat + (if c = true ∨ a.toNat > 0x99 then 0x60 else 0) + (if h = true ∨ a.toNat % 16 > 9 then 6 else 0)) % 256 := by
  have hlow : lowNibble (a + 0x60) = lowNibble a := by simp only [lowNibble]; bv_omega
  have hcond : (h || decide (lowNibble a > 9)) = true ↔ h = true ∨ a.toNat % 16 > 9 := by simp [lowNibble]
  by_cases hhigh : c = true ∨ a.toNat > 0x99
  · have hc : (c || decide (a.toNat > 0x99)) = true := by simpa using hhigh
    simp only [daaAfterAdd, hc, if_true, hlow, hcond, hhigh]
    split <;> bv_omega
  · have hc : (c || decide (a.toNat > 0x99)) = false := by simpa using hhigh
    simp only [daaAfterAdd, hc, Bool.false_eq_true, if_false, hcond, hhigh]
    split <;> bv_omega

theorem daaAfterAdd_carry (a : Byte) (h c : Bool) : (daaAfterAdd a h c).2 = true ↔ c = true ∨ a.toNat > 0x99 := by
  by_cases hhigh : c = true ∨ a.toNat > 0x99
  · have hc : (c || decide (a.toNat > 0x99)) = true := by simpa using hhigh
    simp only [daaAfterAdd, hc, if_true, hhigh]
  · have hc : (c || decide (a.toNat > 0x99)) = false := by simpa using hhigh
    simp only [daaAfterAdd, hc, Bool.false_eq_true, if_false]
    exact (or_iff_left fun hgt => hhigh (.inr hgt)).symm

/-- R261 after a subtraction, on numbers. -/
theorem daaAfterSub_toNat (a : Byte) (h c : Bool) :
    (daaAfterSub a h c).1.toNat = (a.toNat + 256 - (if c = true then 0x60 else 0) - (if h = true then 6 else 0)) % 256 := by
  cases h <;> cases c <;> simp only [daaAfterSub, if_true, if_false, Bool.false_eq_true] <;> bv_omega

theorem completes_daa (s : State) : Completes .daa s fun t =>
    t.a = (daaAdjust s.a s.flags).1 ∧ t.flags = (daaAdjust s.a s.flags).2 ∧ t.pc = s.pc + 1 ∧ RegFrame [.a, .f] s t :=
  ⟨_, rfl, rfl, rfl, rfl, regFrame_setA_setFlags_advance _ _ 1 s⟩

/-- Settles O53: the correction after an addition when N is clear, after a subtraction when it is set. -/
theorem daaAdjusts : Obligations.DaaAdjusts := by
  unfold Obligations.DaaAdjusts
  intro s
  obtain ⟨t, hexec, ha, hf, hpc, hframe⟩ := completes_daa s
  have hz : SetIff t.flags.z (t.a.toNat = 0) := by simp [SetIff, ha, hf, daaAdjust, ← BitVec.toNat_inj]
  refine ⟨t, hexec, fun hn => ⟨?add, ?addCarry⟩, fun hn => ⟨?sub, ?subCarry⟩, hz, by rw [hf]; rfl, by rw [hf]; rfl, hpc, hframe⟩
  case add =>
    rw [ha, daaAdjust, hn]
    exact daaAfterAdd_toNat s.a s.flags.h s.flags.c
  case addCarry =>
    rw [hf, daaAdjust, hn]
    exact daaAfterAdd_carry s.a s.flags.h s.flags.c
  case sub =>
    rw [ha, daaAdjust, hn]
    exact daaAfterSub_toNat s.a s.flags.h s.flags.c
  case subCarry => rw [hf, daaAdjust, hn]; rfl

/-! ### Two-digit decimal numbers -/

theorem bcd_toNat {n : Nat} (hn : n < 100) : (bcd n).toNat = n + 6 * (n / 10) := by
  rw [bcd, BitVec.toNat_ofNat]
  omega

theorem bcd_lowNibble_toNat {n : Nat} (hn : n < 100) : (bcd n &&& 0xF).toNat = n % 10 := by
  rw [← lowNibble_eq_toNat_and, lowNibble, bcd_toNat hn]
  omega

/-- The sum `r` of two BCD bytes: a correction is due where a digit overflows, and both make it the BCD byte of the decimal sum. -/
theorem bcd_sum_corrected {x y r : Nat} (hx : x < 100) (hy : y < 100) (hr : r = x + 6 * (x / 10) + (y + 6 * (y / 10))) :
    (r > 255 ∨ r % 256 > 0x99 ↔ x + y ≥ 100) ∧
    (r % 256 + (if r > 255 ∨ r % 256 > 0x99 then 0x60 else 0) + (if x % 10 + y % 10 > 15 ∨ r % 256 % 16 > 9 then 6 else 0)) % 256 =
      (x + y) % 100 + 6 * ((x + y) % 100 / 10) := by
  have hdigits : r = 16 * (x / 10 + y / 10) + (x % 10 + y % 10) := by omega
  have hlow : (x % 10 + y % 10 > 15 ∨ r % 256 % 16 > 9) ↔ x % 10 + y % 10 ≥ 10 := by omega
  have hhigh : r > 255 ∨ r % 256 > 0x99 ↔ x + y ≥ 100 := by omega
  refine ⟨hhigh, ?_⟩
  simp only [hlow, hhigh]
  by_cases hl : x % 10 + y % 10 ≥ 10
  · have hdiv : (x + y) / 10 = x / 10 + y / 10 + 1 := by omega
    rw [if_pos hl]
    split <;> omega
  · have hdiv : (x + y) / 10 = x / 10 + y / 10 := by omega
    rw [if_neg hl]
    split <;> omega

/-- The difference `r` of two BCD bytes: a correction is due where a digit borrows. -/
theorem bcd_difference_corrected {x y r : Nat} (hx : x < 100) (hy : y < 100)
    (hr : r = (x + 6 * (x / 10) + 512 - (y + 6 * (y / 10))) % 256) :
    (x + 6 * (x / 10) < y + 6 * (y / 10) ↔ x < y) ∧
    (r + 256 - (if x + 6 * (x / 10) < y + 6 * (y / 10) then 0x60 else 0) - (if x % 10 < y % 10 then 6 else 0)) % 256 =
      (x + 100 - y) % 100 + 6 * ((x + 100 - y) % 100 / 10) := by
  have hborrow : x + 6 * (x / 10) < y + 6 * (y / 10) ↔ x < y := by omega
  refine ⟨hborrow, ?_⟩
  simp only [hborrow]
  by_cases hl : x % 10 < y % 10
  · have hdiv : (x + 100 - y) / 10 + 1 = x / 10 + 10 - y / 10 := by omega
    rw [if_pos hl]
    split <;> omega
  · have hdiv : (x + 100 - y) / 10 = x / 10 + 10 - y / 10 := by omega
    rw [if_neg hl]
    split <;> omega

theorem completes_ldR8Imm8_a (n : Byte) (s : State) : Completes (.ldR8Imm8 .a n) s (·.a = n) := ⟨_, rfl, rfl⟩

/-- Settles O54: the sum or difference with its flags, which say where a digit overflowed or borrowed, then DAA's corrections. -/
theorem daaGivesDecimalSumAndDifference : Obligations.DaaGivesDecimalSumAndDifference := by
  unfold Obligations.DaaGivesDecimalSumAndDifference
  intro x y s hx hy
  obtain ⟨s1, hexec1, ha1⟩ := completes_ldR8Imm8_a (bcd x) s
  constructor
  · obtain ⟨s2, hexec2, ha2, -, hn2, hh2, hc2, -⟩ := completes_aluImm8 .add (addPost_add (bcd y) 2 s1)
    obtain ⟨s3, hexec3, hadd, -⟩ := daaAdjusts s2
    obtain ⟨ha3, hc3⟩ := hadd hn2
    rw [ha1, bcd_toNat hx, bcd_toNat hy, Nat.add_zero] at ha2 hc2
    rw [ha1, bcd_lowNibble_toNat hx, bcd_lowNibble_toNat hy, Nat.add_zero] at hh2
    rw [SetIff] at hh2 hc2 hc3
    simp only [hh2, hc2, ha2] at ha3 hc3
    obtain ⟨hcarry, hsum⟩ := bcd_sum_corrected hx hy rfl
    refine ⟨s1, s2, s3, hexec1, hexec2, hexec3, BitVec.eq_of_toNat_eq ?_, hc3.trans hcarry⟩
    rw [ha3, hsum, bcd_toNat (Nat.mod_lt _ (by decide))]
  · obtain ⟨s2, hexec2, ha2, ⟨-, hn2, hh2, hc2⟩, -⟩ := completes_aluImm8 .sub (subPost_sub (bcd y) 2 s1)
    obtain ⟨s3, hexec3, -, hsub, -⟩ := daaAdjusts s2
    obtain ⟨ha3, hc3⟩ := hsub hn2
    rw [ha1, bcd_toNat hx, bcd_toNat hy, Nat.sub_zero] at ha2
    rw [ha1, bcd_toNat hx, bcd_toNat hy, Nat.add_zero] at hc2
    rw [ha1, bcd_lowNibble_toNat hx, bcd_lowNibble_toNat hy, Nat.add_zero] at hh2
    rw [SetIff] at hh2 hc2
    simp only [hh2, hc2, ha2] at ha3
    obtain ⟨hborrow, hdifference⟩ := bcd_difference_corrected hx hy rfl
    refine ⟨s1, s2, s3, hexec1, hexec2, hexec3, BitVec.eq_of_toNat_eq ?_, ?_⟩
    · rw [ha3, hdifference, bcd_toNat (Nat.mod_lt _ (by decide))]
    · rw [SetIff, hc3, hc2, hborrow]

end Sys2Proof.Proofs

/-! PROOFS. Family other: transfers and the stack (spec/45_control.md, spec/46_stack.md), interrupts (spec/60_exceptions.md), reset and
the accessors (spec/10_state.md, spec/70_reset_and_hazards.md). -/

namespace Sys2Proof.Machine

open Claims

/-! ### The condition of a transfer (R98) -/

/-- A conditional instruction does what it does when the condition holds, or what it does when it fails. -/
theorem ite_condHolds_cases {α : Type} (cc : Cond) (s : State) (x y : α) :
    (Taken cc s ∧ (if condHolds cc s.flags then x else y) = x) ∨ (¬ Taken cc s ∧ (if condHolds cc s.flags then x else y) = y) := by
  by_cases hcc : Taken cc s
  · exact .inl ⟨hcc, if_pos ((condHolds_eq_true_iff s cc).mpr hcc)⟩
  · exact .inr ⟨hcc, if_neg (mt (condHolds_eq_true_iff s cc).mp hcc)⟩

/-! ### The target of JR (R230) -/

theorem jrTarget_toNat (e8 : Byte) (s : State) : (jrTarget e8 s).toNat = (s.pc.toNat + 2 + signedOffset e8) % 65536 := by
  rw [jrTarget, BitVec.toNat_add, BitVec.toNat_add, sext16_toNat]
  simp

/-! ### A word pushed, then popped -/

theorem exec_ret (s : State) : exec .ret s = .next s.returnToPopped := rfl
theorem exec_reti (s : State) : exec .reti s = .next s.returnFromInterrupt := rfl

/-- What was pushed is popped where SP and memory are as the push left them. -/
theorem read16_of_pushed {v : Word} {s t : State} (hsp : t.sp = s.sp - 2) (hmem : t.mem = (s.push16 v).mem) : t.read16 t.sp = v := by
  have hread : t.read16 t.sp = (s.push16 v).read16 (s.sp - 2) := by
    rw [State.read16, State.read16, read8_eq_of_mem_eq hmem, read8_eq_of_mem_eq hmem, hsp]
  rw [hread]
  exact State.read16_write16 ..

end Sys2Proof.Machine

namespace Sys2Proof.Proofs

open Sys2Proof.Machine Sys2Proof.Claims

/-! ### Jumps, calls, returns -/

/-- Settles O45: PC is written with the target, or moved past the instruction where the condition fails. -/
theorem jumps : Obligations.Jumps := by
  unfold Obligations.Jumps
  refine fun cc e8 n s => ⟨⟨_, rfl, jrTarget_toNat e8 s, pcFrame_setPc _ s⟩, ⟨_, rfl, ?jr⟩, ⟨_, rfl, rfl, pcFrame_setPc n s⟩,
    ⟨_, rfl, ?jp⟩, ⟨_, rfl, rfl, pcFrame_setPc s.hl s⟩⟩
  case jr =>
    obtain ⟨hcc, h⟩ | ⟨hcc, h⟩ := ite_condHolds_cases cc s (s.setPc (jrTarget e8 s)) (s.advance 2)
    · rw [h]; exact ⟨fun _ => jrTarget_toNat e8 s, absurd hcc, pcFrame_setPc _ s⟩
    · rw [h]; exact ⟨fun h => absurd h hcc, fun _ => rfl, pcFrame_advance 2 s⟩
  case jp =>
    obtain ⟨hcc, h⟩ | ⟨hcc, h⟩ := ite_condHolds_cases cc s (s.setPc n) (s.advance 3)
    · rw [h]; exact ⟨fun _ => rfl, absurd hcc, pcFrame_setPc n s⟩
    · rw [h]; exact ⟨fun h => absurd h hcc, fun _ => rfl, pcFrame_advance 3 s⟩

theorem rstTarget_eq (k : Fin 8) : rstTarget k = BitVec.ofNat 16 (8 * k.val) := by rw [rstTarget, Nat.mul_comm]

/-- Settles O47: a taken CALL cond and RST are `State.callTo`. -/
theorem conditionalCallAndRst : Obligations.ConditionalCallAndRst := by
  unfold Obligations.ConditionalCallAndRst
  refine ⟨fun cc n s => ⟨_, rfl, ?call⟩, fun k s => ⟨_, rfl, rstTarget_eq k ▸ called_callTo (s.pc + 1) (rstTarget k) s⟩⟩
  obtain ⟨hcc, h⟩ | ⟨hcc, h⟩ := ite_condHolds_cases cc s (s.callTo (s.pc + 3) n) (s.advance 3)
  · rw [h]; exact ⟨fun _ => called_callTo (s.pc + 3) n s, absurd hcc⟩
  · rw [h]; exact ⟨fun h => absurd h hcc, fun _ => ⟨rfl, pcFrame_advance 3 s⟩⟩

/-- R237: what a return leaves. -/
theorem popped_returnToPopped (s : State) :
    s.returnToPopped.pc.toNat = wordAt s.sp s ∧ s.returnToPopped.sp = s.sp + 2 ∧ SameRegs [] s s.returnToPopped ∧
    SameMem s s.returnToPopped :=
  ⟨read16_toNat s s.sp, rfl, sameRegs_pop16 s, sameMem_pop16 s⟩

/-- Settles O48: the three are `State.returnToPopped`, to which RETI adds IME. -/
theorem returns : Obligations.Returns := by
  unfold Obligations.Returns
  refine fun cc s => ⟨⟨_, rfl, popped_returnToPopped s, sameControl_pop16 s⟩, ⟨_, rfl, ?cond⟩,
    ⟨_, rfl, popped_returnToPopped s, rfl, rfl, rfl, rfl⟩⟩
  obtain ⟨hcc, h⟩ | ⟨hcc, h⟩ := ite_condHolds_cases cc s s.returnToPopped (s.advance 1)
  · rw [h]; exact ⟨fun _ => ⟨popped_returnToPopped s, sameControl_pop16 s⟩, absurd hcc⟩
  · rw [h]; exact ⟨fun h => absurd h hcc, fun _ => ⟨rfl, pcFrame_advance 1 s⟩⟩

/-- Settles O51: RET pops the return address, whose two bytes neither the tick nor the fetch changes. -/
theorem callThenRetReturns : Obligations.CallThenRetReturns := by
  unfold Obligations.CallThenRetReturns
  intro s t n hhalted hstopped hcall hstep hret
  have hidle := idle_eq_false hhalted hstopped
  rw [step_of_exec_next hidle (hcall ▸ exec_callImm16 n s)] at hstep
  obtain rfl := Host.Outcome.next.inj hstep
  refine ⟨_, step_of_exec_next ?idle (hret ▸ exec_ret _), ?sp, ?pc⟩
  case idle => simpa [State.idle] using hidle
  case sp => simp
  case pc =>
    rw [imeTick_pc, State.returnToPopped_pc]
    exact read16_of_pushed (imeTick_sp ..) (imeTick_mem ..)

/-! ### PUSH and POP -/

/-- R250: a pair pushed. -/
theorem completes_pushR16stk (rr : R16stk) (s : State) :
    Completes (.pushR16stk rr) s (fun t => t.sp = s.sp - 2 ∧ Stored16 (s.sp - 2) (s.reg16 (nameOfR16stk rr)) s t ∧ SameRegs [] s t ∧
      SameControl s t ∧ t.pc = s.pc + 1) := by
  rw [← getR16stk_eq_reg16]
  exact ⟨_, rfl, rfl, stored16_push16 s (s.getR16stk rr), sameRegs_push16 s (s.getR16stk rr),
    sameControl_push16 s (s.getR16stk rr), rfl⟩

/-- R251: a pair popped. -/
theorem completes_popR16stk (rr : R16stk) (s : State) :
    Completes (.popR16stk rr) s (fun t =>
      t.reg16 (nameOfR16stk rr) = (if rr = .af then s.read16 s.sp &&& 0xFFF0 else s.read16 s.sp) ∧
      t.sp = s.sp + 2 ∧ SameRegs (halvesOfR16stk rr) s t ∧ SameMem s t ∧ SameControl s t ∧ t.pc = s.pc + 1) := by
  have hreg : ((s.pop16.2.setR16stk rr s.pop16.1).advance 1).reg16 (nameOfR16stk rr) =
      (s.pop16.2.setR16stk rr s.pop16.1).reg16 (nameOfR16stk rr) := by cases rr <;> rfl
  refine ⟨_, rfl, hreg.trans (reg16_setR16stk ..), State.setR16stk_sp _ rr _, ?regs, ?mem, ?control, ?pc⟩
  case regs => exact sameRegs_trans (sameRegs_pop16 s) (sameRegs_setR16stk s.pop16.2 _ rr)
  case mem => exact read8_eq_of_mem_eq (State.setR16stk_mem _ rr _)
  case control =>
    exact ⟨State.setR16stk_ime _ rr _, State.setR16stk_imePending _ rr _, State.setR16stk_halted _ rr _, State.setR16stk_stopped _ rr _⟩
  case pc => exact congrArg (· + 1) (State.setR16stk_pc _ rr _)

theorem wordAt_mod_16 (x : Word) (s : State) : wordAt x s % 16 = (s.read8 x).toNat % 16 := by
  rw [wordAt]
  omega

/-- Settles O49: PUSH is `State.push16` of the pair, POP writes the pair with the word at SP, AF without its low nibble. -/
theorem pushAndPop : Obligations.PushAndPop := by
  unfold Obligations.PushAndPop
  intro rr s
  obtain ⟨t, hexec, hreg, hrest⟩ := completes_popR16stk rr s
  refine ⟨completes_pushR16stk rr s, t, hexec, ?_, hrest⟩
  rw [hreg]
  split
  · rw [and_0xFFF0_toNat, read16_toNat, wordAt_mod_16]
  · exact read16_toNat s s.sp

/-- Settles O50: the word pushed is the word popped. -/
theorem pushThenPopMovesTheValue : Obligations.PushThenPopMovesTheValue := by
  unfold Obligations.PushThenPopMovesTheValue
  intro rr rr' s
  let t := (s.push16 (s.getR16stk rr)).advance 1
  have hword : t.read16 t.sp = s.getR16stk rr := read16_of_pushed rfl rfl
  obtain ⟨u, hexec, hreg, hsp, hregs, -⟩ := completes_popR16stk rr' t
  refine ⟨t, u, rfl, hexec, hsp.trans (BitVec.sub_add_cancel s.sp 2), ?value, ?regs⟩
  case value => rw [hreg, hword, getR16stk_eq_reg16]
  case regs => exact sameRegs_trans (t := t) (sameRegs_push16 s (s.getR16stk rr)) hregs

/-! ### Interrupts -/

theorem requestInterrupt_of_ime {n : Nat} (hn : n ≤ 4) {s : State} (hime : s.ime = true) :
    requestInterrupt n s = .next (dispatchInterrupt n (s.setHalted false)) := by
  rw [requestInterrupt, if_pos hn, if_pos hime]

theorem requestInterrupt_of_not_ime {n : Nat} (hn : n ≤ 4) {s : State} (hime : s.ime = false) :
    requestInterrupt n s = .next (s.setHalted false) := by
  rw [requestInterrupt, if_pos hn, if_neg (by simp [hime])]

theorem interruptVector_toNat {n : Nat} (hn : n ≤ 4) : (interruptVector n).toNat = 0x0040 + 8 * n := by
  rw [interruptVector, BitVec.toNat_ofNat]
  omega

/-- The accesses of a push, with the bytes memory then holds. -/
theorem pushAccesses_of_stored16 {v : Word} {s t : State} (h : Stored16 (s.sp - 2) v s t) :
    pushAccesses v s = [.write (s.sp - 2) (t.read8 (s.sp - 2)), .write (s.sp - 1) (t.read8 (s.sp - 1))] := by
  obtain ⟨hlow, hhigh, -⟩ := h
  have hnext : s.sp - 2 + 1 = s.sp - 1 := by bv_omega
  have hlo : loByte v = t.read8 (s.sp - 2) := BitVec.eq_of_toNat_eq ((loByte_toNat v).trans hlow.symm)
  have hhi : hiByte v = t.read8 (s.sp - 2 + 1) := BitVec.eq_of_toNat_eq ((hiByte_toNat v).trans hhigh.symm)
  rw [pushAccesses, write16Accesses, hlo, hhi, hnext]

/-- Settles O56: a legal request wakes the core, and dispatches by `State.callTo` where IME is set. -/
theorem requestInterruptDispatchesOrWakes : Obligations.RequestInterruptDispatchesOrWakes := by
  unfold Obligations.RequestInterruptDispatchesOrWakes
  refine fun n s => ⟨fun hn => ?legal, fun hn => if_neg (Nat.not_le.mpr hn)⟩
  cases hime : s.ime with
  | true =>
    have hcalled := called_callTo s.pc (interruptVector n) ((s.setHalted false).setIme false)
    obtain ⟨hsp, hstored, hpc, hregs, himeAfter, hpending, hhalted, hstopped⟩ := hcalled
    have haccesses : requestAccesses n s = pushAccesses s.pc s := if_pos ⟨hn, hime⟩
    exact ⟨_, requestInterrupt_of_ime hn hime, hhalted, hstopped, hpending, himeAfter, hregs,
      fun _ => ⟨hsp, hstored, interruptVector_toNat hn, haccesses.trans (pushAccesses_of_stored16 hstored)⟩, nofun⟩
  | false =>
    have haccesses : requestAccesses n s = [] := if_neg fun h => by simp [hime] at h
    exact ⟨_, requestInterrupt_of_not_ime hn hime, rfl, rfl, rfl, hime, fun _ _ => rfl, nofun,
      fun _ => ⟨rfl, rfl, fun _ => rfl, haccesses⟩⟩

/-- Settles O57: RETI pops the PC the dispatch pushed. -/
theorem retiUndoesDispatch : Obligations.RetiUndoesDispatch := by
  unfold Obligations.RetiUndoesDispatch
  intro n s t hime hreq
  obtain ⟨-, ⟨-, rfl⟩ | ⟨hnot, -⟩⟩ := requestInterrupt_eq_next s hreq
  · refine ⟨_, exec_reti _, ?pc, BitVec.sub_add_cancel s.sp 2, rfl, ?regs⟩
    case pc => exact read16_of_pushed (s := (s.setHalted false).setIme false) rfl rfl
    case regs => exact sameRegs_trans (sameRegs_callTo s.pc (interruptVector n) ((s.setHalted false).setIme false)) (sameRegs_pop16 _)
  · simp [hime] at hnot

/-! ### Reset -/

theorem resetWith_pairs (init : Config.Init) :
    (State.resetWith init).bc = init.bc ∧ (State.resetWith init).de = init.de ∧ (State.resetWith init).hl = init.hl :=
  ⟨joinBytes_hiByte_loByte init.bc, joinBytes_hiByte_loByte init.de, joinBytes_hiByte_loByte init.hl⟩

/-- Settles O19: `resetOp` is the reset state over the memory of before. -/
theorem resetParametersAndMemory : Obligations.ResetParametersAndMemory := by
  unfold Obligations.ResetParametersAndMemory
  intro init s
  obtain ⟨hbc, hde, hhl⟩ := resetWith_pairs init
  exact ⟨resetOp init s, rfl, rfl, fun _ => rfl, rfl, State.f_resetWith init, hbc, hde, hhl, fetchInstr_of_pc_eq rfl⟩

/-! ### The accessors -/

theorem regFrame_setReg8 (r : Reg8) (v : Byte) (s : State) : RegFrame [r] s (s.setReg8 r v) ∧ (s.setReg8 r v).pc = s.pc := by
  have hothers : (s.setReg8 r v).sp = s.sp ∧ SameControl s (s.setReg8 r v) ∧ SameMem s (s.setReg8 r v) ∧
      (s.setReg8 r v).pc = s.pc := by
    cases r <;> exact ⟨rfl, ⟨rfl, rfl, rfl, rfl⟩, fun _ => rfl, rfl⟩
  obtain ⟨hsp, hcontrol, hmem, hpc⟩ := hothers
  exact ⟨⟨sameRegs_setReg8 r v s, hsp, hcontrol, hmem⟩, hpc⟩

theorem flag_setFlag (g g' : Flag) (v : Bool) (s : State) : (s.setFlag g v).flag g' = if g' = g then v else s.flag g' := by
  cases g <;> cases g' <;> rfl

/-- R21, R26: a 16-bit register reads back as written, AF masked. -/
theorem reg16_setReg16 (r : Reg16) (w : Word) (s : State) : (s.setReg16 r w).reg16 r = if r = .af then w &&& 0xFFF0 else w := by
  cases r
  case af => exact reg16_setR16stk s w .af
  case bc => exact s.bc_setBc w
  case de => exact s.de_setDe w
  case hl => exact s.hl_setHl w
  case sp | pc => rfl

theorem sameRegs_setReg16 (r : Reg16) (w : Word) (s : State) : SameRegs (halvesOfReg16 r) s (s.setReg16 r w) := by
  cases r
  case af => exact sameRegs_setAf w s
  case bc => exact sameRegs_setBc w s
  case de => exact sameRegs_setDe w s
  case hl => exact sameRegs_setHl w s
  case sp | pc => exact fun _ _ => rfl

/-- What a 16-bit write leaves beside the 8-bit registers. -/
theorem setReg16_others (r : Reg16) (w : Word) (s : State) :
    (r ≠ .sp → (s.setReg16 r w).sp = s.sp) ∧ (r ≠ .pc → (s.setReg16 r w).pc = s.pc) ∧ SameControl s (s.setReg16 r w) ∧
    SameMem s (s.setReg16 r w) := by
  cases r
  case sp => exact ⟨fun h => absurd rfl h, fun _ => rfl, ⟨rfl, rfl, rfl, rfl⟩, fun _ => rfl⟩
  case pc => exact ⟨fun _ => rfl, fun h => absurd rfl h, ⟨rfl, rfl, rfl, rfl⟩, fun _ => rfl⟩
  all_goals exact ⟨fun _ => rfl, fun _ => rfl, ⟨rfl, rfl, rfl, rfl⟩, fun _ => rfl⟩

/-- Settles O22: each accessor writes one field, or the two halves of a pair. -/
theorem accessorsChangeOneThing : Obligations.AccessorsChangeOneThing := by
  unfold Obligations.AccessorsChangeOneThing
  refine ⟨fun _ _ _ => rfl, fun _ _ _ => rfl, fun _ _ _ => rfl, fun _ _ => ⟨rfl, rfl, rfl⟩,
    fun n s => ⟨fun hn => if_pos hn, fun hn => if_neg (Nat.not_le.mpr hn)⟩, fun x v s => ⟨s.write8 x v, rfl, ?poke⟩,
    fun r v s => ⟨?reg8, regFrame_setReg8 r v s⟩, fun g v s => ⟨?flag, fun g' hg => ?flags, ?flagFrame, rfl⟩,
    fun r w s => ⟨reg16_setReg16 r w s, sameRegs_setReg16 r w s, setReg16_others r w s⟩⟩
  case poke => exact ⟨stored8_write8 x v s, sameRegs_write8 x v s, rfl, rfl, ⟨rfl, rfl, rfl, rfl⟩⟩
  case reg8 => rw [State.reg8_setReg8, if_pos rfl]
  case flag => rw [flag_setFlag, if_pos rfl]
  case flags => rw [flag_setFlag, if_neg hg]
  case flagFrame => exact ⟨sameRegs_setFlags _ s, rfl, ⟨rfl, rfl, rfl, rfl⟩, fun _ => rfl⟩

end Sys2Proof.Proofs
